-- ==== Sys2Proof/Word.lean ====
section
/-! DEFINITION. The words of the machine: bytes and 16-bit words as bit vectors (00_scope.md R13, R14; 10_state.md R20). -/

namespace Sys2Proof

/-- One byte of memory, one half of a general register, one byte of an instruction. -/
abbrev Byte := BitVec 8

/-- A 16-bit register, an offset, a segment, a word operand. -/
abbrev Word := BitVec 16

/-- A physical address: an index into the memory array (20_memory.md R62). -/
abbrev Phys := BitVec 20

end Sys2Proof
end

