-- ==== Sys2Proof/Config.lean ====
section
/-! DEFINITION. What is fixed for the machine (the parameters of 00_scope.md R7), and the free values: constants with no body, of
which no proof can know a value. -/

namespace Sys2Proof

/-- The CPU tag of 00_scope.md R2. -/
inductive CpuType where
  | i8086 | i186 | i286 | i386
deriving DecidableEq, Repr, Inhabited

/-- What the core does after the Interrupt Layer has handled a dispatch (60_exceptions.md R341). -/
inductive IntUnwind where
  | none | discard | iret
deriving DecidableEq, Repr

/-- What the outside world answers to one service call of the Interrupt Layer (the `choice` of 00_scope.md R12; 60_exceptions.md
R349 to R362). A service reads the fields its rule names and no others. -/
structure World where
  /-- The backend fails with this message (R349: "may answer HostIOError whenever a backend is involved"). -/
  ioError : Option String
  /-- When the backend fails: how many of the service's backend calls it had served before (log entries 12 and 18). -/
  served : Nat
  /-- A blocking keyboard read gets its key (R358, R381). -/
  keyComes : Bool
  /-- A keyboard peek finds a key (R358). -/
  keyWaiting : Bool
  /-- The key's scan code (R358). -/
  scancode : Byte
  /-- The key's ASCII code (R358). -/
  ascii : Byte
  /-- The cursor's row (R353). -/
  row : Byte
  /-- The cursor's column (R353). -/
  column : Byte
  /-- Ticks since midnight (R359). -/
  ticks : BitVec 32
  /-- A sector read, or the opening of a file, succeeds (R357, R361). -/
  success : Bool
  /-- The error code of a failure (R357, R361). -/
  errorCode : Word
  /-- The handle of an opened file (R361). -/
  handle : Word
  /-- The position after a seek (R361). -/
  position : BitVec 32
  /-- CF after a file read, which the source does not state (R361, 93_implementation_defined.md U7). -/
  carry : Bool
  /-- The bytes of the sectors or of the file (R357, R361). -/
  data : List Byte
  /-- What a video service writes into the text buffer: offsets in it and bytes (R349). -/
  textWrites : List (Nat × Byte)
deriving DecidableEq, Repr, Inhabited

namespace Config

/-- `MEM_SIZE` of 00_scope.md R7. -/
def memSize : Nat := 2 ^ 20

/-- `FLAGS_FIXED` of 00_scope.md R7 and 10_state.md R38: the bits of the FLAGS image that hold no flag. -/
def flagsFixed : Word := 0xF002

/-- `PUSH_SP_NEW` of 00_scope.md R7 and 44_transfer.md R248. -/
def pushSpNew : Bool := true

/-- `INT_UNWIND` of 00_scope.md R7 and 60_exceptions.md R341. -/
def intUnwind : IntUnwind := .none

/-- The first byte of the text buffer (20_memory.md R76). -/
def textBase : Nat := 0xB8000

/-- The size of the text buffer, 80 × 25 × 2 bytes (20_memory.md R76). -/
def textSize : Nat := 4000

/-- The largest `.COM` image (70_reset_and_hazards.md R394, R395(b)). -/
def maxComBytes : Nat := 0xFF00

/-- `CPU_TYPE` of 00_scope.md R2: no rule depends on it. -/
opaque cpuType : CpuType

/-- The value of an undefined flag, a fresh one for each draw (00_scope.md R18, 92_eei_decisions.md D4). -/
opaque freeFlag : Nat → Bool

/-- The outside world's answer to a dispatch for which State holds none, a fresh one for each draw (00_scope.md R12). -/
opaque freeWorld : Nat → World

/-- A byte of a sector that the world's answer does not list: draw, then index (60_exceptions.md R357). -/
opaque freeByte : Nat → Nat → Byte

end Config

end Sys2Proof
end

