-- ==== Sys2Proof/Syntax.lean ====
section
/-! DEFINITION. The instructions as data: registers, memory operands, and one constructor of `Instr` per row of
spec/opcode_table.json (30_encoding.md R116, R117, R127). -/

namespace Sys2Proof

/-- The eight byte registers, in the order of 30_encoding.md R101. -/
inductive Reg8 where
  | al | cl | dl | bl | ah | ch | dh | bh
deriving DecidableEq, Repr, Inhabited

/-- The eight word registers, in the order of 30_encoding.md R100. -/
inductive Reg16 where
  | ax | cx | dx | bx | sp | bp | si | di
deriving DecidableEq, Repr, Inhabited

/-- The four segment registers, in the order of 30_encoding.md R102. -/
inductive SReg where
  | es | cs | ss | ds
deriving DecidableEq, Repr, Inhabited

/-- The base expressions of 30_encoding.md R96, in the order of `rm`. -/
inductive Base where
  | bxSi | bxDi | bpSi | bpDi | si | di | bp | bx
deriving DecidableEq, Repr, Inhabited

/-- The displacement of a memory operand (30_encoding.md R97): none for mod=00, a signed byte for mod=01, a word for mod=10. -/
inductive Disp where
  | none
  | d8 (d : Byte)
  | d16 (d : Word)
deriving DecidableEq, Repr, Inhabited

/-- A memory operand (30_encoding.md R96): one of the 24 cells, or `[addr16]` (mod=00, rm=110). -/
inductive MemOp where
  | based (b : Base) (d : Disp)
  | direct (addr : Word)
deriving DecidableEq, Repr, Inhabited

/-- An `r/m8` operand (30_encoding.md R96): a byte register (mod=11) or a byte in memory. -/
inductive Rm8 where
  | reg (r : Reg8)
  | mem (m : MemOp)
deriving DecidableEq, Repr, Inhabited

/-- An `r/m16` operand (30_encoding.md R96): a word register (mod=11) or a word in memory. -/
inductive Rm16 where
  | reg (r : Reg16)
  | mem (m : MemOp)
deriving DecidableEq, Repr, Inhabited

/-- One constructor per row of spec/opcode_table.json, in the table's order: first the rows with operands, then those without (Lean's
compiler numbers at most 244 constructors with fields). A prefix row (30_encoding.md R91, R92) is a
constructor of its own: the decoder reads the prefixes of an instruction one by one, and the tick runs them in front of the
instruction they belong to (R93). A row marked UNIMPL (R109) is a constructor too: it is decoded by its name, and what it does is
the fatal path of 60_exceptions.md R332. Operands stand destination first (R110). -/
inductive Instr where
  /-- `ADD r/m8, r8`: 00 (R142). -/
  | addRm8R8 (rm : Rm8) (r : Reg8)
  /-- `ADD r/m16, r16`: 01 (R142). -/
  | addRm16R16 (rm : Rm16) (r : Reg16)
  /-- `ADD r8, r/m8`: 02 (R142). -/
  | addR8Rm8 (r : Reg8) (rm : Rm8)
  /-- `ADD r16, r/m16`: 03 (R142). -/
  | addR16Rm16 (r : Reg16) (rm : Rm16)
  /-- `ADD AL, ib`: 04 (R142). -/
  | addAlIb (ib : Byte)
  /-- `ADD AX, iw`: 05 (R142). -/
  | addAxIw (iw : Word)
  /-- `OR r/m8, r8`: 08 (R172). -/
  | orRm8R8 (rm : Rm8) (r : Reg8)
  /-- `OR r/m16, r16`: 09 (R172). -/
  | orRm16R16 (rm : Rm16) (r : Reg16)
  /-- `OR r8, r/m8`: 0A (R172). -/
  | orR8Rm8 (r : Reg8) (rm : Rm8)
  /-- `OR r16, r/m16`: 0B (R172). -/
  | orR16Rm16 (r : Reg16) (rm : Rm16)
  /-- `OR AL, ib`: 0C (R172). -/
  | orAlIb (ib : Byte)
  /-- `OR AX, iw`: 0D (R172). -/
  | orAxIw (iw : Word)
  /-- `ADC r/m8, r8`: 10 (R143). -/
  | adcRm8R8 (rm : Rm8) (r : Reg8)
  /-- `ADC r/m16, r16`: 11 (R143). -/
  | adcRm16R16 (rm : Rm16) (r : Reg16)
  /-- `ADC r8, r/m8`: 12 (R143). -/
  | adcR8Rm8 (r : Reg8) (rm : Rm8)
  /-- `ADC r16, r/m16`: 13 (R143). -/
  | adcR16Rm16 (r : Reg16) (rm : Rm16)
  /-- `ADC AL, ib`: 14 (R143). -/
  | adcAlIb (ib : Byte)
  /-- `ADC AX, iw`: 15 (R143). -/
  | adcAxIw (iw : Word)
  /-- `SBB r/m8, r8`: 18 (R145). -/
  | sbbRm8R8 (rm : Rm8) (r : Reg8)
  /-- `SBB r/m16, r16`: 19 (R145). -/
  | sbbRm16R16 (rm : Rm16) (r : Reg16)
  /-- `SBB r8, r/m8`: 1A (R145). -/
  | sbbR8Rm8 (r : Reg8) (rm : Rm8)
  /-- `SBB r16, r/m16`: 1B (R145). -/
  | sbbR16Rm16 (r : Reg16) (rm : Rm16)
  /-- `SBB AL, ib`: 1C (R145). -/
  | sbbAlIb (ib : Byte)
  /-- `SBB AX, iw`: 1D (R145). -/
  | sbbAxIw (iw : Word)
  /-- `AND r/m8, r8`: 20 (R171). -/
  | andRm8R8 (rm : Rm8) (r : Reg8)
  /-- `AND r/m16, r16`: 21 (R171). -/
  | andRm16R16 (rm : Rm16) (r : Reg16)
  /-- `AND r8, r/m8`: 22 (R171). -/
  | andR8Rm8 (r : Reg8) (rm : Rm8)
  /-- `AND r16, r/m16`: 23 (R171). -/
  | andR16Rm16 (r : Reg16) (rm : Rm16)
  /-- `AND AL, ib`: 24 (R171). -/
  | andAlIb (ib : Byte)
  /-- `AND AX, iw`: 25 (R171). -/
  | andAxIw (iw : Word)
  /-- `SUB r/m8, r8`: 28 (R144). -/
  | subRm8R8 (rm : Rm8) (r : Reg8)
  /-- `SUB r/m16, r16`: 29 (R144). -/
  | subRm16R16 (rm : Rm16) (r : Reg16)
  /-- `SUB r8, r/m8`: 2A (R144). -/
  | subR8Rm8 (r : Reg8) (rm : Rm8)
  /-- `SUB r16, r/m16`: 2B (R144). -/
  | subR16Rm16 (r : Reg16) (rm : Rm16)
  /-- `SUB AL, ib`: 2C (R144). -/
  | subAlIb (ib : Byte)
  /-- `SUB AX, iw`: 2D (R144). -/
  | subAxIw (iw : Word)
  /-- `XOR r/m8, r8`: 30 (R173). -/
  | xorRm8R8 (rm : Rm8) (r : Reg8)
  /-- `XOR r/m16, r16`: 31 (R173). -/
  | xorRm16R16 (rm : Rm16) (r : Reg16)
  /-- `XOR r8, r/m8`: 32 (R173). -/
  | xorR8Rm8 (r : Reg8) (rm : Rm8)
  /-- `XOR r16, r/m16`: 33 (R173). -/
  | xorR16Rm16 (r : Reg16) (rm : Rm16)
  /-- `XOR AL, ib`: 34 (R173). -/
  | xorAlIb (ib : Byte)
  /-- `XOR AX, iw`: 35 (R173). -/
  | xorAxIw (iw : Word)
  /-- `CMP r/m8, r8`: 38 (R146). -/
  | cmpRm8R8 (rm : Rm8) (r : Reg8)
  /-- `CMP r/m16, r16`: 39 (R146). -/
  | cmpRm16R16 (rm : Rm16) (r : Reg16)
  /-- `CMP r8, r/m8`: 3A (R146). -/
  | cmpR8Rm8 (r : Reg8) (rm : Rm8)
  /-- `CMP r16, r/m16`: 3B (R146). -/
  | cmpR16Rm16 (r : Reg16) (rm : Rm16)
  /-- `CMP AL, ib`: 3C (R146). -/
  | cmpAlIb (ib : Byte)
  /-- `CMP AX, iw`: 3D (R146). -/
  | cmpAxIw (iw : Word)
  /-- `INC r16`: 40 mask F8 (R147). -/
  | incR16 (r : Reg16)
  /-- `DEC r16`: 48 mask F8 (R148). -/
  | decR16 (r : Reg16)
  /-- `PUSH r16`: 50 mask F8 (R248). -/
  | pushR16 (r : Reg16)
  /-- `POP r16`: 58 mask F8 (R251). -/
  | popR16 (r : Reg16)
  /-- `JO rel8`: 70 (R289). -/
  | jo (rel : Byte)
  /-- `JNO rel8`: 71 (R290). -/
  | jno (rel : Byte)
  /-- `JB rel8`: 72 (R291). -/
  | jb (rel : Byte)
  /-- `JNB rel8`: 73 (R292). -/
  | jnb (rel : Byte)
  /-- `JZ rel8`: 74 (R293). -/
  | jz (rel : Byte)
  /-- `JNZ rel8`: 75 (R294). -/
  | jnz (rel : Byte)
  /-- `JBE rel8`: 76 (R295). -/
  | jbe (rel : Byte)
  /-- `JA rel8`: 77 (R296). -/
  | ja (rel : Byte)
  /-- `JS rel8`: 78 (R297). -/
  | js (rel : Byte)
  /-- `JNS rel8`: 79 (R298). -/
  | jns (rel : Byte)
  /-- `JPE rel8`: 7A (R299). -/
  | jpe (rel : Byte)
  /-- `JPO rel8`: 7B (R300). -/
  | jpo (rel : Byte)
  /-- `JL rel8`: 7C (R301). -/
  | jl (rel : Byte)
  /-- `JGE rel8`: 7D (R302). -/
  | jge (rel : Byte)
  /-- `JLE rel8`: 7E (R303). -/
  | jle (rel : Byte)
  /-- `JG rel8`: 7F (R304). -/
  | jg (rel : Byte)
  /-- `ADD r/m8, ib`: 8000 mask FF38 (R142). -/
  | addRm8Ib (rm : Rm8) (ib : Byte)
  /-- `OR r/m8, ib`: 8008 mask FF38 (R172). -/
  | orRm8Ib (rm : Rm8) (ib : Byte)
  /-- `ADC r/m8, ib`: 8010 mask FF38 (R143). -/
  | adcRm8Ib (rm : Rm8) (ib : Byte)
  /-- `SBB r/m8, ib`: 8018 mask FF38 (R145). -/
  | sbbRm8Ib (rm : Rm8) (ib : Byte)
  /-- `AND r/m8, ib`: 8020 mask FF38 (R171). -/
  | andRm8Ib (rm : Rm8) (ib : Byte)
  /-- `SUB r/m8, ib`: 8028 mask FF38 (R144). -/
  | subRm8Ib (rm : Rm8) (ib : Byte)
  /-- `XOR r/m8, ib`: 8030 mask FF38 (R173). -/
  | xorRm8Ib (rm : Rm8) (ib : Byte)
  /-- `CMP r/m8, ib`: 8038 mask FF38 (R146). -/
  | cmpRm8Ib (rm : Rm8) (ib : Byte)
  /-- `ADD r/m16, iw`: 8100 mask FF38 (R142). -/
  | addRm16Iw (rm : Rm16) (iw : Word)
  /-- `OR r/m16, iw`: 8108 mask FF38 (R172). -/
  | orRm16Iw (rm : Rm16) (iw : Word)
  /-- `ADC r/m16, iw`: 8110 mask FF38 (R143). -/
  | adcRm16Iw (rm : Rm16) (iw : Word)
  /-- `SBB r/m16, iw`: 8118 mask FF38 (R145). -/
  | sbbRm16Iw (rm : Rm16) (iw : Word)
  /-- `AND r/m16, iw`: 8120 mask FF38 (R171). -/
  | andRm16Iw (rm : Rm16) (iw : Word)
  /-- `SUB r/m16, iw`: 8128 mask FF38 (R144). -/
  | subRm16Iw (rm : Rm16) (iw : Word)
  /-- `XOR r/m16, iw`: 8130 mask FF38 (R173). -/
  | xorRm16Iw (rm : Rm16) (iw : Word)
  /-- `CMP r/m16, iw`: 8138 mask FF38 (R146). -/
  | cmpRm16Iw (rm : Rm16) (iw : Word)
  /-- `ADD r/m8, ib`: 8200 mask FF38 (R142). -/
  | addRm8Ib82 (rm : Rm8) (ib : Byte)
  /-- `OR r/m8, ib`: 8208 mask FF38 (R172). -/
  | orRm8Ib82 (rm : Rm8) (ib : Byte)
  /-- `ADC r/m8, ib`: 8210 mask FF38 (R143). -/
  | adcRm8Ib82 (rm : Rm8) (ib : Byte)
  /-- `SBB r/m8, ib`: 8218 mask FF38 (R145). -/
  | sbbRm8Ib82 (rm : Rm8) (ib : Byte)
  /-- `AND r/m8, ib`: 8220 mask FF38 (R171). -/
  | andRm8Ib82 (rm : Rm8) (ib : Byte)
  /-- `SUB r/m8, ib`: 8228 mask FF38 (R144). -/
  | subRm8Ib82 (rm : Rm8) (ib : Byte)
  /-- `XOR r/m8, ib`: 8230 mask FF38 (R173). -/
  | xorRm8Ib82 (rm : Rm8) (ib : Byte)
  /-- `CMP r/m8, ib`: 8238 mask FF38 (R146). -/
  | cmpRm8Ib82 (rm : Rm8) (ib : Byte)
  /-- `ADD r/m16, sext ib`: 8300 mask FF38 (R142). -/
  | addRm16Sext (rm : Rm16) (ib : Byte)
  /-- `OR r/m16, sext ib`: 8308 mask FF38 (R172). -/
  | orRm16Sext (rm : Rm16) (ib : Byte)
  /-- `ADC r/m16, sext ib`: 8310 mask FF38 (R143). -/
  | adcRm16Sext (rm : Rm16) (ib : Byte)
  /-- `SBB r/m16, sext ib`: 8318 mask FF38 (R145). -/
  | sbbRm16Sext (rm : Rm16) (ib : Byte)
  /-- `AND r/m16, sext ib`: 8320 mask FF38 (R171). -/
  | andRm16Sext (rm : Rm16) (ib : Byte)
  /-- `SUB r/m16, sext ib`: 8328 mask FF38 (R144). -/
  | subRm16Sext (rm : Rm16) (ib : Byte)
  /-- `XOR r/m16, sext ib`: 8330 mask FF38 (R173). -/
  | xorRm16Sext (rm : Rm16) (ib : Byte)
  /-- `CMP r/m16, sext ib`: 8338 mask FF38 (R146). -/
  | cmpRm16Sext (rm : Rm16) (ib : Byte)
  /-- `TEST r/m8, r8`: 84 (R174). -/
  | testRm8R8 (rm : Rm8) (r : Reg8)
  /-- `TEST r/m16, r16`: 85 (R174). -/
  | testRm16R16 (rm : Rm16) (r : Reg16)
  /-- `XCHG r/m8, r8`: 86 (R240). -/
  | xchgRm8R8 (rm : Rm8) (r : Reg8)
  /-- `XCHG r/m16, r16`: 87 (R240). -/
  | xchgRm16R16 (rm : Rm16) (r : Reg16)
  /-- `MOV r/m8, r8`: 88 (R231). -/
  | movRm8R8 (rm : Rm8) (r : Reg8)
  /-- `MOV r/m16, r16`: 89 (R231). -/
  | movRm16R16 (rm : Rm16) (r : Reg16)
  /-- `MOV r8, r/m8`: 8A (R231). -/
  | movR8Rm8 (r : Reg8) (rm : Rm8)
  /-- `MOV r16, r/m16`: 8B (R231). -/
  | movR16Rm16 (r : Reg16) (rm : Rm16)
  /-- `MOV r/m16, sreg`: 8C00 mask FF20 (R236). -/
  | movRm16Sreg (rm : Rm16) (sr : SReg)
  /-- `UNIMPL 8C with reg 4..7`: 8C20 mask FF20 (R109). -/
  | unimpl8CReg4to7 (mod : BitVec 2) (reg : BitVec 2) (rm : BitVec 3)
  /-- `LEA r16, m`: 8D (R243). -/
  | leaR16M (r : Reg16) (m : MemOp)
  /-- `UNIMPL 8D with mod=3`: 8DC0 mask FFC0 (R109). -/
  | unimpl8DMod3 (reg : BitVec 3) (rm : BitVec 3)
  /-- `MOV sreg, r/m16`: 8E00 mask FF20 (R237). -/
  | movSregRm16 (sr : SReg) (rm : Rm16)
  /-- `UNIMPL 8E with reg 4..7`: 8E20 mask FF20 (R109). -/
  | unimpl8EReg4to7 (mod : BitVec 2) (reg : BitVec 2) (rm : BitVec 3)
  /-- `POP r/m16`: 8F00 mask FF38 (R252). -/
  | popRm16 (rm : Rm16)
  /-- `UNIMPL 8F /1`: 8F08 mask FF38 (R109). -/
  | unimpl8FSub1 (mod : BitVec 2) (rm : BitVec 3)
  /-- `UNIMPL 8F /2`: 8F10 mask FF38 (R109). -/
  | unimpl8FSub2 (mod : BitVec 2) (rm : BitVec 3)
  /-- `UNIMPL 8F /3`: 8F18 mask FF38 (R109). -/
  | unimpl8FSub3 (mod : BitVec 2) (rm : BitVec 3)
  /-- `UNIMPL 8F /4`: 8F20 mask FF38 (R109). -/
  | unimpl8FSub4 (mod : BitVec 2) (rm : BitVec 3)
  /-- `UNIMPL 8F /5`: 8F28 mask FF38 (R109). -/
  | unimpl8FSub5 (mod : BitVec 2) (rm : BitVec 3)
  /-- `UNIMPL 8F /6`: 8F30 mask FF38 (R109). -/
  | unimpl8FSub6 (mod : BitVec 2) (rm : BitVec 3)
  /-- `UNIMPL 8F /7`: 8F38 mask FF38 (R109). -/
  | unimpl8FSub7 (mod : BitVec 2) (rm : BitVec 3)
  /-- `XCHG AX, r16 (NOP when r=0)`: 90 mask F8 (R241). -/
  | xchgAxR16 (r : Reg16)
  /-- `CALL ptr16:16`: 9A (R282). -/
  | callPtr (off : Word) (seg : Word)
  /-- `MOV AL, [moffs]`: A0 (R234). -/
  | movAlMoffs (moffs : Word)
  /-- `MOV AX, [moffs]`: A1 (R234). -/
  | movAxMoffs (moffs : Word)
  /-- `MOV [moffs], AL`: A2 (R235). -/
  | movMoffsAl (moffs : Word)
  /-- `MOV [moffs], AX`: A3 (R235). -/
  | movMoffsAx (moffs : Word)
  /-- `TEST AL, ib`: A8 (R174). -/
  | testAlIb (ib : Byte)
  /-- `TEST AX, iw`: A9 (R174). -/
  | testAxIw (iw : Word)
  /-- `MOV r8, ib`: B0 mask F8 (R233). -/
  | movR8Ib (r : Reg8) (ib : Byte)
  /-- `MOV r16, iw`: B8 mask F8 (R233). -/
  | movR16Iw (r : Reg16) (iw : Word)
  /-- `RET iw`: C2 (R286). -/
  | retIw (iw : Word)
  /-- `LES r16, m16:16`: C4 (R245). -/
  | lesR16M (r : Reg16) (m : MemOp)
  /-- `UNIMPL C4 with mod=3`: C4C0 mask FFC0 (R109). -/
  | unimplC4Mod3 (reg : BitVec 3) (rm : BitVec 3)
  /-- `LDS r16, m16:16`: C5 (R244). -/
  | ldsR16M (r : Reg16) (m : MemOp)
  /-- `UNIMPL C5 with mod=3`: C5C0 mask FFC0 (R109). -/
  | unimplC5Mod3 (reg : BitVec 3) (rm : BitVec 3)
  /-- `MOV r/m8, ib`: C600 mask FF38 (R232). -/
  | movRm8Ib (rm : Rm8) (ib : Byte)
  /-- `UNIMPL C6 /1`: C608 mask FF38 (R109). -/
  | unimplC6Sub1 (mod : BitVec 2) (rm : BitVec 3)
  /-- `UNIMPL C6 /2`: C610 mask FF38 (R109). -/
  | unimplC6Sub2 (mod : BitVec 2) (rm : BitVec 3)
  /-- `UNIMPL C6 /3`: C618 mask FF38 (R109). -/
  | unimplC6Sub3 (mod : BitVec 2) (rm : BitVec 3)
  /-- `UNIMPL C6 /4`: C620 mask FF38 (R109). -/
  | unimplC6Sub4 (mod : BitVec 2) (rm : BitVec 3)
  /-- `UNIMPL C6 /5`: C628 mask FF38 (R109). -/
  | unimplC6Sub5 (mod : BitVec 2) (rm : BitVec 3)
  /-- `UNIMPL C6 /6`: C630 mask FF38 (R109). -/
  | unimplC6Sub6 (mod : BitVec 2) (rm : BitVec 3)
  /-- `UNIMPL C6 /7`: C638 mask FF38 (R109). -/
  | unimplC6Sub7 (mod : BitVec 2) (rm : BitVec 3)
  /-- `MOV r/m16, iw`: C700 mask FF38 (R232). -/
  | movRm16Iw (rm : Rm16) (iw : Word)
  /-- `UNIMPL C7 /1`: C708 mask FF38 (R109). -/
  | unimplC7Sub1 (mod : BitVec 2) (rm : BitVec 3)
  /-- `UNIMPL C7 /2`: C710 mask FF38 (R109). -/
  | unimplC7Sub2 (mod : BitVec 2) (rm : BitVec 3)
  /-- `UNIMPL C7 /3`: C718 mask FF38 (R109). -/
  | unimplC7Sub3 (mod : BitVec 2) (rm : BitVec 3)
  /-- `UNIMPL C7 /4`: C720 mask FF38 (R109). -/
  | unimplC7Sub4 (mod : BitVec 2) (rm : BitVec 3)
  /-- `UNIMPL C7 /5`: C728 mask FF38 (R109). -/
  | unimplC7Sub5 (mod : BitVec 2) (rm : BitVec 3)
  /-- `UNIMPL C7 /6`: C730 mask FF38 (R109). -/
  | unimplC7Sub6 (mod : BitVec 2) (rm : BitVec 3)
  /-- `UNIMPL C7 /7`: C738 mask FF38 (R109). -/
  | unimplC7Sub7 (mod : BitVec 2) (rm : BitVec 3)
  /-- `RETF iw`: CA (R288). -/
  | retfIw (iw : Word)
  /-- `INT ib`: CD (R311). -/
  | intIb (ib : Byte)
  /-- `ROL r/m8, 1`: D000 mask FF38 (R194). -/
  | rolRm8One (rm : Rm8)
  /-- `ROR r/m8, 1`: D008 mask FF38 (R195). -/
  | rorRm8One (rm : Rm8)
  /-- `RCL r/m8, 1`: D010 mask FF38 (R196). -/
  | rclRm8One (rm : Rm8)
  /-- `RCR r/m8, 1`: D018 mask FF38 (R197). -/
  | rcrRm8One (rm : Rm8)
  /-- `SHL r/m8, 1`: D020 mask FF38 (R191). -/
  | shlRm8One (rm : Rm8)
  /-- `SHR r/m8, 1`: D028 mask FF38 (R192). -/
  | shrRm8One (rm : Rm8)
  /-- `UNIMPL D0 /6`: D030 mask FF38 (R109). -/
  | unimplD0Sub6 (mod : BitVec 2) (rm : BitVec 3)
  /-- `SAR r/m8, 1`: D038 mask FF38 (R193). -/
  | sarRm8One (rm : Rm8)
  /-- `ROL r/m16, 1`: D100 mask FF38 (R194). -/
  | rolRm16One (rm : Rm16)
  /-- `ROR r/m16, 1`: D108 mask FF38 (R195). -/
  | rorRm16One (rm : Rm16)
  /-- `RCL r/m16, 1`: D110 mask FF38 (R196). -/
  | rclRm16One (rm : Rm16)
  /-- `RCR r/m16, 1`: D118 mask FF38 (R197). -/
  | rcrRm16One (rm : Rm16)
  /-- `SHL r/m16, 1`: D120 mask FF38 (R191). -/
  | shlRm16One (rm : Rm16)
  /-- `SHR r/m16, 1`: D128 mask FF38 (R192). -/
  | shrRm16One (rm : Rm16)
  /-- `UNIMPL D1 /6`: D130 mask FF38 (R109). -/
  | unimplD1Sub6 (mod : BitVec 2) (rm : BitVec 3)
  /-- `SAR r/m16, 1`: D138 mask FF38 (R193). -/
  | sarRm16One (rm : Rm16)
  /-- `ROL r/m8, CL`: D200 mask FF38 (R194). -/
  | rolRm8Cl (rm : Rm8)
  /-- `ROR r/m8, CL`: D208 mask FF38 (R195). -/
  | rorRm8Cl (rm : Rm8)
  /-- `RCL r/m8, CL`: D210 mask FF38 (R196). -/
  | rclRm8Cl (rm : Rm8)
  /-- `RCR r/m8, CL`: D218 mask FF38 (R197). -/
  | rcrRm8Cl (rm : Rm8)
  /-- `SHL r/m8, CL`: D220 mask FF38 (R191). -/
  | shlRm8Cl (rm : Rm8)
  /-- `SHR r/m8, CL`: D228 mask FF38 (R192). -/
  | shrRm8Cl (rm : Rm8)
  /-- `UNIMPL D2 /6`: D230 mask FF38 (R109). -/
  | unimplD2Sub6 (mod : BitVec 2) (rm : BitVec 3)
  /-- `SAR r/m8, CL`: D238 mask FF38 (R193). -/
  | sarRm8Cl (rm : Rm8)
  /-- `ROL r/m16, CL`: D300 mask FF38 (R194). -/
  | rolRm16Cl (rm : Rm16)
  /-- `ROR r/m16, CL`: D308 mask FF38 (R195). -/
  | rorRm16Cl (rm : Rm16)
  /-- `RCL r/m16, CL`: D310 mask FF38 (R196). -/
  | rclRm16Cl (rm : Rm16)
  /-- `RCR r/m16, CL`: D318 mask FF38 (R197). -/
  | rcrRm16Cl (rm : Rm16)
  /-- `SHL r/m16, CL`: D320 mask FF38 (R191). -/
  | shlRm16Cl (rm : Rm16)
  /-- `SHR r/m16, CL`: D328 mask FF38 (R192). -/
  | shrRm16Cl (rm : Rm16)
  /-- `UNIMPL D3 /6`: D330 mask FF38 (R109). -/
  | unimplD3Sub6 (mod : BitVec 2) (rm : BitVec 3)
  /-- `SAR r/m16, CL`: D338 mask FF38 (R193). -/
  | sarRm16Cl (rm : Rm16)
  /-- `LOOPNE rel8`: E0 (R280). -/
  | loopne (rel : Byte)
  /-- `LOOPE rel8`: E1 (R279). -/
  | loope (rel : Byte)
  /-- `LOOP rel8`: E2 (R278). -/
  | loop (rel : Byte)
  /-- `JCXZ rel8`: E3 (R277). -/
  | jcxz (rel : Byte)
  /-- `CALL rel16`: E8 (R281). -/
  | callRel16 (rel : Word)
  /-- `JMP rel16`: E9 (R272). -/
  | jmpRel16 (rel : Word)
  /-- `JMP ptr16:16`: EA (R273). -/
  | jmpPtr (off : Word) (seg : Word)
  /-- `JMP rel8`: EB (R271). -/
  | jmpRel8 (rel : Byte)
  /-- `TEST r/m8, ib`: F600 mask FF38 (R174). -/
  | testRm8Ib (rm : Rm8) (ib : Byte)
  /-- `UNIMPL F6 /1`: F608 mask FF38 (R109). -/
  | unimplF6Sub1 (mod : BitVec 2) (rm : BitVec 3)
  /-- `NOT r/m8`: F610 mask FF38 (R175). -/
  | notRm8 (rm : Rm8)
  /-- `UNIMPL F6 /3`: F618 mask FF38 (R109). -/
  | unimplF6Sub3 (mod : BitVec 2) (rm : BitVec 3)
  /-- `MUL r/m8`: F620 mask FF38 (R149). -/
  | mulRm8 (rm : Rm8)
  /-- `UNIMPL F6 /5`: F628 mask FF38 (R109). -/
  | unimplF6Sub5 (mod : BitVec 2) (rm : BitVec 3)
  /-- `DIV r/m8`: F630 mask FF38 (R150). -/
  | divRm8 (rm : Rm8)
  /-- `UNIMPL F6 /7`: F638 mask FF38 (R109). -/
  | unimplF6Sub7 (mod : BitVec 2) (rm : BitVec 3)
  /-- `TEST r/m16, iw`: F700 mask FF38 (R174). -/
  | testRm16Iw (rm : Rm16) (iw : Word)
  /-- `UNIMPL F7 /1`: F708 mask FF38 (R109). -/
  | unimplF7Sub1 (mod : BitVec 2) (rm : BitVec 3)
  /-- `NOT r/m16`: F710 mask FF38 (R175). -/
  | notRm16 (rm : Rm16)
  /-- `UNIMPL F7 /3`: F718 mask FF38 (R109). -/
  | unimplF7Sub3 (mod : BitVec 2) (rm : BitVec 3)
  /-- `MUL r/m16`: F720 mask FF38 (R149). -/
  | mulRm16 (rm : Rm16)
  /-- `UNIMPL F7 /5`: F728 mask FF38 (R109). -/
  | unimplF7Sub5 (mod : BitVec 2) (rm : BitVec 3)
  /-- `DIV r/m16`: F730 mask FF38 (R150). -/
  | divRm16 (rm : Rm16)
  /-- `UNIMPL F7 /7`: F738 mask FF38 (R109). -/
  | unimplF7Sub7 (mod : BitVec 2) (rm : BitVec 3)
  /-- `INC r/m8`: FE00 mask FF38 (R147). -/
  | incRm8 (rm : Rm8)
  /-- `DEC r/m8`: FE08 mask FF38 (R148). -/
  | decRm8 (rm : Rm8)
  /-- `UNIMPL FE /2`: FE10 mask FF38 (R109). -/
  | unimplFESub2 (mod : BitVec 2) (rm : BitVec 3)
  /-- `UNIMPL FE /3`: FE18 mask FF38 (R109). -/
  | unimplFESub3 (mod : BitVec 2) (rm : BitVec 3)
  /-- `UNIMPL FE /4`: FE20 mask FF38 (R109). -/
  | unimplFESub4 (mod : BitVec 2) (rm : BitVec 3)
  /-- `UNIMPL FE /5`: FE28 mask FF38 (R109). -/
  | unimplFESub5 (mod : BitVec 2) (rm : BitVec 3)
  /-- `UNIMPL FE /6`: FE30 mask FF38 (R109). -/
  | unimplFESub6 (mod : BitVec 2) (rm : BitVec 3)
  /-- `UNIMPL FE /7`: FE38 mask FF38 (R109). -/
  | unimplFESub7 (mod : BitVec 2) (rm : BitVec 3)
  /-- `INC r/m16`: FF00 mask FF38 (R147). -/
  | incRm16 (rm : Rm16)
  /-- `DEC r/m16`: FF08 mask FF38 (R148). -/
  | decRm16 (rm : Rm16)
  /-- `CALL r/m16`: FF10 mask FF38 (R283). -/
  | callRm16 (rm : Rm16)
  /-- `CALL m16:16`: FF18 mask FF38 (R284). -/
  | callM16 (m : MemOp)
  /-- `JMP r/m16`: FF20 mask FF38 (R274). -/
  | jmpRm16 (rm : Rm16)
  /-- `JMP m16:16`: FF28 mask FF38 (R275). -/
  | jmpM16 (m : MemOp)
  /-- `PUSH r/m16`: FF30 mask FF38 (R249). -/
  | pushRm16 (rm : Rm16)
  /-- `UNIMPL FF /7`: FF38 mask FF38 (R109). -/
  | unimplFFSub7 (mod : BitVec 2) (rm : BitVec 3)
  /-- `UNIMPL FF /3 with mod=3`: FFD8 mask FFF8 (R109). -/
  | unimplFFSub3Mod3 (rm : BitVec 3)
  /-- `UNIMPL FF /5 with mod=3`: FFE8 mask FFF8 (R109). -/
  | unimplFFSub5Mod3 (rm : BitVec 3)
  /-- `PUSH ES`: 06 (R250). -/
  | pushEs
  /-- `POP ES`: 07 (R253). -/
  | popEs
  /-- `PUSH CS`: 0E (R250). -/
  | pushCs
  /-- `UNIMPL 0F [POP CS]`: 0F (R109). -/
  | unimpl0F
  /-- `PUSH SS`: 16 (R250). -/
  | pushSs
  /-- `POP SS`: 17 (R253). -/
  | popSs
  /-- `PUSH DS`: 1E (R250). -/
  | pushDs
  /-- `POP DS`: 1F (R253). -/
  | popDs
  /-- `prefix ES:`: 26 (R91). -/
  | prefixEs
  /-- `UNIMPL 27 [DAA]`: 27 (R109). -/
  | unimpl27
  /-- `prefix CS:`: 2E (R91). -/
  | prefixCs
  /-- `UNIMPL 2F [DAS]`: 2F (R109). -/
  | unimpl2F
  /-- `prefix SS:`: 36 (R91). -/
  | prefixSs
  /-- `UNIMPL 37 [AAA]`: 37 (R109). -/
  | unimpl37
  /-- `prefix DS:`: 3E (R91). -/
  | prefixDs
  /-- `UNIMPL 3F [AAS]`: 3F (R109). -/
  | unimpl3F
  /-- `UNIMPL 60 [alias of 70 / 80186]`: 60 (R109). -/
  | unimpl60
  /-- `UNIMPL 61 [alias of 71 / 80186]`: 61 (R109). -/
  | unimpl61
  /-- `UNIMPL 62 [alias of 72 / 80186]`: 62 (R109). -/
  | unimpl62
  /-- `UNIMPL 63 [alias of 73 / 80186]`: 63 (R109). -/
  | unimpl63
  /-- `UNIMPL 64 [alias of 74 / 80186]`: 64 (R109). -/
  | unimpl64
  /-- `UNIMPL 65 [alias of 75 / 80186]`: 65 (R109). -/
  | unimpl65
  /-- `UNIMPL 66 [alias of 76 / 80186]`: 66 (R109). -/
  | unimpl66
  /-- `UNIMPL 67 [alias of 77 / 80186]`: 67 (R109). -/
  | unimpl67
  /-- `UNIMPL 68 [alias of 78 / 80186]`: 68 (R109). -/
  | unimpl68
  /-- `UNIMPL 69 [alias of 79 / 80186]`: 69 (R109). -/
  | unimpl69
  /-- `UNIMPL 6A [alias of 7A / 80186]`: 6A (R109). -/
  | unimpl6A
  /-- `UNIMPL 6B [alias of 7B / 80186]`: 6B (R109). -/
  | unimpl6B
  /-- `UNIMPL 6C [alias of 7C / 80186]`: 6C (R109). -/
  | unimpl6C
  /-- `UNIMPL 6D [alias of 7D / 80186]`: 6D (R109). -/
  | unimpl6D
  /-- `UNIMPL 6E [alias of 7E / 80186]`: 6E (R109). -/
  | unimpl6E
  /-- `UNIMPL 6F [alias of 7F / 80186]`: 6F (R109). -/
  | unimpl6F
  /-- `UNIMPL 98 [CBW]`: 98 (R109). -/
  | unimpl98
  /-- `UNIMPL 99 [CWD]`: 99 (R109). -/
  | unimpl99
  /-- `UNIMPL 9B [WAIT]`: 9B (R109). -/
  | unimpl9B
  /-- `PUSHF`: 9C (R254). -/
  | pushf
  /-- `POPF`: 9D (R255). -/
  | popf
  /-- `UNIMPL 9E [SAHF]`: 9E (R109). -/
  | unimpl9E
  /-- `UNIMPL 9F [LAHF]`: 9F (R109). -/
  | unimpl9F
  /-- `MOVSB`: A4 (R211). -/
  | movsb
  /-- `MOVSW`: A5 (R211). -/
  | movsw
  /-- `CMPSB`: A6 (R212). -/
  | cmpsb
  /-- `CMPSW`: A7 (R212). -/
  | cmpsw
  /-- `STOSB`: AA (R214). -/
  | stosb
  /-- `STOSW`: AB (R214). -/
  | stosw
  /-- `LODSB`: AC (R213). -/
  | lodsb
  /-- `LODSW`: AD (R213). -/
  | lodsw
  /-- `SCASB`: AE (R215). -/
  | scasb
  /-- `SCASW`: AF (R215). -/
  | scasw
  /-- `UNIMPL C0 [alias of C2 / 80186 shift ib]`: C0 (R109). -/
  | unimplC0
  /-- `UNIMPL C1 [alias of C3 / 80186 shift ib]`: C1 (R109). -/
  | unimplC1
  /-- `RET`: C3 (R285). -/
  | ret
  /-- `UNIMPL C8 [alias of CA / ENTER]`: C8 (R109). -/
  | unimplC8
  /-- `UNIMPL C9 [alias of CB / LEAVE]`: C9 (R109). -/
  | unimplC9
  /-- `RETF`: CB (R287). -/
  | retf
  /-- `INT3`: CC (R312). -/
  | int3
  /-- `UNIMPL CE [INTO]`: CE (R109). -/
  | unimplCE
  /-- `IRET`: CF (R313). -/
  | iret
  /-- `UNIMPL D4 [AAM]`: D4 (R109). -/
  | unimplD4
  /-- `UNIMPL D5 [AAD]`: D5 (R109). -/
  | unimplD5
  /-- `UNIMPL D6 [SALC]`: D6 (R109). -/
  | unimplD6
  /-- `UNIMPL D7 [XLAT]`: D7 (R109). -/
  | unimplD7
  /-- `UNIMPL D8 [ESC]`: D8 (R109). -/
  | unimplD8
  /-- `UNIMPL D9 [ESC]`: D9 (R109). -/
  | unimplD9
  /-- `UNIMPL DA [ESC]`: DA (R109). -/
  | unimplDA
  /-- `UNIMPL DB [ESC]`: DB (R109). -/
  | unimplDB
  /-- `UNIMPL DC [ESC]`: DC (R109). -/
  | unimplDC
  /-- `UNIMPL DD [ESC]`: DD (R109). -/
  | unimplDD
  /-- `UNIMPL DE [ESC]`: DE (R109). -/
  | unimplDE
  /-- `UNIMPL DF [ESC]`: DF (R109). -/
  | unimplDF
  /-- `UNIMPL E4 [IN ib]`: E4 (R109). -/
  | unimplE4
  /-- `UNIMPL E5 [IN ib]`: E5 (R109). -/
  | unimplE5
  /-- `UNIMPL E6 [OUT ib]`: E6 (R109). -/
  | unimplE6
  /-- `UNIMPL E7 [OUT ib]`: E7 (R109). -/
  | unimplE7
  /-- `UNIMPL EC [IN DX]`: EC (R109). -/
  | unimplEC
  /-- `UNIMPL ED [IN DX]`: ED (R109). -/
  | unimplED
  /-- `UNIMPL EE [OUT DX]`: EE (R109). -/
  | unimplEE
  /-- `UNIMPL EF [OUT DX]`: EF (R109). -/
  | unimplEF
  /-- `UNIMPL F0 [LOCK]`: F0 (R109). -/
  | unimplF0
  /-- `UNIMPL F1 [undocumented]`: F1 (R109). -/
  | unimplF1
  /-- `prefix REPNZ`: F2 (R92). -/
  | prefixRepnz
  /-- `prefix REP/REPZ`: F3 (R92). -/
  | prefixRep
  /-- `UNIMPL F4 [HLT]`: F4 (R109). -/
  | unimplF4
  /-- `CMC`: F5 (R322). -/
  | cmc
  /-- `CLC`: F8 (R320). -/
  | clc
  /-- `STC`: F9 (R321). -/
  | stc
  /-- `CLI`: FA (R325). -/
  | cli
  /-- `STI`: FB (R326). -/
  | sti
  /-- `CLD`: FC (R323). -/
  | cld
  /-- `STD`: FD (R324). -/
  | std
deriving DecidableEq, Repr, Inhabited

/-- The six prefix rows (30_encoding.md R91, R92). -/
def Instr.isPrefix : Instr → Bool
  | .prefixEs | .prefixCs | .prefixSs | .prefixDs | .prefixRepnz | .prefixRep => true
  | _ => false

end Sys2Proof
end

