-- ==== Sys2Proof/Machine/State.lean ====
section
/-! DEFINITION. The state of the machine as plain data (10_state.md R20 to R48), what a step can end in, and the power-on state. -/

namespace Sys2Proof.Machine

/-- The word registers: general (10_state.md R20), pointer and index (R22), segment (R24), and IP (R25). -/
structure Regs where
  AX : Word
  BX : Word
  CX : Word
  DX : Word
  SP : Word
  BP : Word
  SI : Word
  DI : Word
  CS : Word
  DS : Word
  ES : Word
  SS : Word
  IP : Word
deriving DecidableEq, Repr, Inhabited

/-- The nine flags (10_state.md R27). -/
structure Flags where
  CF : Bool
  PF : Bool
  AF : Bool
  ZF : Bool
  SF : Bool
  OF : Bool
  DF : Bool
  IF : Bool
  TF : Bool
deriving DecidableEq, Repr, Inhabited

/-- The 2^20 bytes of memory (20_memory.md R61), as the bytes that differ from 0, by rising address. -/
abbrev Memory := List Host.Cell

/-- The canonical form from address `lo` on: addresses strictly rising, below 2^20, and no byte 0 listed. -/
def Memory.wfFrom (lo : Nat) : Memory → Bool
  | [] => true
  | (a, v) :: rest => decide (lo ≤ a) && decide (a < Config.memSize) && (v != 0) && Memory.wfFrom (a + 1) rest

/-- The canonical form of memory: equal memories are equal lists. -/
def Memory.wf (m : Memory) : Bool := Memory.wfFrom 0 m

/-- The run state and the requested state (10_state.md R42, R43). -/
inductive RunState where
  | stopped | running | paused
deriving DecidableEq, Repr, Inhabited

/-- The repetition prefix of an instruction (30_encoding.md R92). `rep` is byte `F3`, which is `RepZ` in front of CMPS and SCAS
and `Rep` otherwise; `repNZ` is byte `F2`. -/
inductive RepPrefix where
  | none | rep | repNZ
deriving DecidableEq, Repr, Inhabited

/-- The decoded record of the instruction being executed, less its opcode and parameters (30_encoding.md R110): the bytes it was
decoded from (their number is its length), its segment prefix and its repetition prefix. Empty between ticks (10_state.md R46). -/
structure InFlight where
  bytes : List Byte
  seg : Option SReg
  rep : RepPrefix
deriving DecidableEq, Repr, Inhabited

/-- No instruction is being executed. -/
def InFlight.empty : InFlight := { bytes := [], seg := none, rep := .none }

/-- The fatal errors that a rule of the spec raises, with their payloads (60_exceptions.md R331). -/
inductive FatalError where
  | unhandledInstruction (bytes : List Byte) (cs ip : Word)
  | unhandledGroupSubopcode (bytes : List Byte) (cs ip : Word)
  | unhandledInterrupt (vector ah : Byte)
  | hostIOError (msg : String)
deriving DecidableEq, Repr

/-- What the Interrupt Layer asks of the backends (60_exceptions.md R351 to R361). -/
inductive BackendCall where
  /-- `SetMode(mode)` (R351). -/
  | setMode (mode : Byte)
  /-- `MoveCursor` to a row and a column (R352). -/
  | moveCursor (row column : Byte)
  /-- Reading the cursor's place (R353). -/
  | readCursor
  /-- `Scroll(lines, color)` (R354). -/
  | scroll (lines colour : Byte)
  /-- A character with attribute (R355): the subfunction (09 or 0A), character, page, attribute, count. -/
  | writeChar (subfunction char page colour : Byte) (count : Word)
  /-- `Write(char)` on the TTY (R356, R360). -/
  | ttyWrite (char : Byte)
  /-- Reading sectors from the floppy (R357): count, cylinder, sector, head, drive. -/
  | readSectors (count cylinder sector head drive : Byte)
  /-- A blocking keyboard read (R358). -/
  | readKey
  /-- A keyboard peek (R358). -/
  | peekKey
  /-- Opening a file by its path (R361): the path's bytes and the open mode. -/
  | openFile (path : List Byte) (mode : Byte)
  /-- Reading a file (R361): handle and count. -/
  | readFile (handle count : Word)
  /-- Seeking in a file (R361): handle, origin, distance. -/
  | seekFile (handle : Word) (origin : Byte) (distance : BitVec 32)
deriving DecidableEq, Repr

/-- What leaves the core for the host (00_scope.md R11). -/
inductive HostEvent where
  /-- The state-changed callbacks with these handles were called with this run state (60_exceptions.md R376); the order among
  them is not stated and not recorded. -/
  | stateChanged (handles : List Nat) (r : RunState)
  /-- The message of a fatal error (60_exceptions.md R332). -/
  | fatal (e : FatalError)
  /-- The handle a registration returned (60_exceptions.md R376). -/
  | registered (handle : Nat)
  /-- A boot entry was refused for want of a good image (70_reset_and_hazards.md R392, R394). -/
  | preBootError
  /-- A call of a backend by the Interrupt Layer. -/
  | backend (c : BackendCall)
deriving DecidableEq, Repr

/-- The host's calls (00_scope.md R9, R10). -/
inductive HostCall where
  /-- `Start()` (60_exceptions.md R372). -/
  | start
  /-- `Stop()` (60_exceptions.md R373). -/
  | stop
  /-- `SetPaused(b)` (60_exceptions.md R373). -/
  | setPaused (b : Bool)
  /-- `RegisterStateChangedCallback` (60_exceptions.md R376). -/
  | registerCallback
  /-- `UnregisterStateChangedCallback` (60_exceptions.md R376). -/
  | unregisterCallback (handle : Nat)
  /-- `BootFloppy()` with this image mounted, or none (70_reset_and_hazards.md R392). -/
  | bootFloppy (image : Option (List Byte))
  /-- `BootCOM(path)`: `COM_SEGMENT` (00_scope.md R7), and the file's bytes if it can be read (70_reset_and_hazards.md R394). -/
  | bootCom (segment : Word) (image : Option (List Byte))
deriving DecidableEq, Repr

/-- The answer of an Interrupt Layer that need not conform to 60_exceptions.md R349: any answer of 00_scope.md R12. The new
memory is given by the bytes that are written, so that it keeps the canonical form. -/
inductive Claim where
  | handled (regs : Regs) (flags : Flags) (writes : List (Phys × Byte))
  | notHandled
  | terminate
  | hostIOError (msg : String)
  | neverAnswers
deriving DecidableEq, Repr

/-- What the outside supplies for one interrupt dispatch (`IntLayer` and `choice` of 00_scope.md R12, 92_eei_decisions.md D8, D41):
the world's answers to a conforming layer, or the answer of an arbitrary layer. -/
inductive Choice where
  | conforming (w : World)
  | claims (c : Claim)
deriving DecidableEq, Repr

/-- The state of the machine. INVENTORY.md lists the fields with the rules that name them. -/
structure State where
  regs : Regs
  flags : Flags
  mem : Memory
  LAST_CS : Word
  LAST_IP : Word
  run_state : RunState
  requested_state : RunState
  /-- A boot entry has loaded an image: only then does the core start ticking (10_state.md R48, 70_reset_and_hazards.md R390). -/
  booted : Bool
  /-- The handles of the registered state-changed callbacks (10_state.md R44). -/
  callbacks : List Nat
  /-- The instruction being executed; empty between ticks. -/
  cur : InFlight
  /-- The string instruction whose repetition loop a pause has interrupted (60_exceptions.md R374). -/
  pending : Option Instr
  /-- The model's own: the next fresh callback handle. -/
  nextHandle : Nat
  /-- The model's own: how many free values have been drawn. -/
  draws : Nat
  /-- The model's own: the host's calls to come, one batch for each suspension point. -/
  inbox : List (List HostCall)
  /-- The model's own: the outside's answers to the dispatches to come; when empty, the answers are free. -/
  choices : List Choice
  /-- The model's own: what has left the core, newest first. -/
  host_log : List HostEvent
  /-- The parameter `MSDOS_ENABLED` of 00_scope.md R7; no step writes it. -/
  MSDOS_ENABLED : Bool
deriving DecidableEq, Repr

/-- The stuck states: the spec says that the tick never ends, and gives no state after it. -/
inductive Fault where
  /-- Raised by the step when all 65536 bytes of the code segment are prefix bytes (70_reset_and_hazards.md R405,
  93_implementation_defined.md U18). Safe: the machine never gets further. -/
  | decoderNeverEnds
  /-- Raised by a dispatch of `INT 16h`, `AH=00` when no key ever comes (60_exceptions.md R358, R381; U19). Safe: the tick never
  ends. -/
  | keyboardNeverAnswers
  /-- Raised by a dispatch of `INT 21h`, `AH=09` or `3D`, on a string without its terminator that the layer scans for ever
  (93_implementation_defined.md U11). Safe: the tick never ends. -/
  | stringNeverEnds
  /-- Raised by a dispatch to a layer that does not conform and never answers (60_exceptions.md R381(b)). Safe: the tick never
  ends. -/
  | layerNeverAnswers
deriving DecidableEq, Repr

/-- Why the model itself gives no next state. -/
inductive Refusal where
  /-- Raised by `exec` for an instruction that has no meaning yet; no arm does so now. Safe: nothing can be proved of it. -/
  | notModelled (mnemonic : String)
deriving DecidableEq, Repr

/-- What an instruction or a step ends in. -/
abbrev Result := Host.Outcome State Fault Refusal

/-- All word registers zero (10_state.md R48). -/
def Regs.zero : Regs :=
  { AX := 0, BX := 0, CX := 0, DX := 0, SP := 0, BP := 0, SI := 0, DI := 0, CS := 0, DS := 0, ES := 0, SS := 0, IP := 0 }

/-- All flags clear (10_state.md R48). -/
def Flags.clear : Flags :=
  { CF := false, PF := false, AF := false, ZF := false, SF := false, OF := false, DF := false, IF := false, TF := false }

/-- Power-on (10_state.md R48): everything zero, memory zero, Stopped, nothing requested, no image loaded, no callback. The fields that are the
model's own start empty (log entries 1, 4, 5, 7, 10, 14, 18, 23). -/
def State.reset : State :=
  { regs := Regs.zero
    flags := Flags.clear
    mem := []
    LAST_CS := 0
    LAST_IP := 0
    run_state := .stopped
    requested_state := .stopped
    booted := false
    callbacks := []
    cur := InFlight.empty
    pending := none
    nextHandle := 0
    draws := 0
    inbox := []
    choices := []
    host_log := []
    MSDOS_ENABLED := true }

end Sys2Proof.Machine
end

