-- ==== Sys2Proof/Machine/Flags.lean ====
section
/-! DEFINITION. The flag computations: results with their carries (40_arithmetic.md R141), SetSZP (10_state.md R33), the FLAGS word
image (10_state.md R38), and flags left undefined (00_scope.md R18). -/

namespace Sys2Proof.Machine

/-! ## Results -/

/-- A result of width `n` with the three flags computed beside it (40_arithmetic.md R141). -/
structure ArithOut (n : Nat) where
  r : BitVec n
  cf : Bool
  of : Bool
  af : Bool
deriving DecidableEq, Repr

/-- `AddOp_N(a, b, c_in)` of 40_arithmetic.md R141. -/
def addOp {n : Nat} (a b : BitVec n) (cin : Bool) : ArithOut n :=
  let sum := a.toNat + b.toNat + cin.toNat
  let r := BitVec.ofNat n sum
  { r := r
    cf := decide (2 ^ n ≤ sum)
    of := (a.msb == b.msb) && (r.msb != a.msb)
    af := decide (16 ≤ a.toNat % 16 + b.toNat % 16 + cin.toNat) }

/-- `SubOp_N(a, b, c_in)` of 40_arithmetic.md R141, in the borrow form. -/
def subOp {n : Nat} (a b : BitVec n) (cin : Bool) : ArithOut n :=
  let r := BitVec.ofInt n ((a.toNat : Int) - b.toNat - cin.toNat)
  { r := r
    cf := decide (a.toNat < b.toNat + cin.toNat)
    of := (a.msb != b.msb) && (r.msb != a.msb)
    af := decide (a.toNat % 16 < b.toNat % 16 + cin.toNat) }

/-- The number of 1 bits of a byte (00_scope.md R14). -/
def popcount (b : Byte) : Nat :=
  (b.getLsbD 0).toNat + (b.getLsbD 1).toNat + (b.getLsbD 2).toNat + (b.getLsbD 3).toNat
    + (b.getLsbD 4).toNat + (b.getLsbD 5).toNat + (b.getLsbD 6).toNat + (b.getLsbD 7).toNat

/-- `SetSZP_N(r)` of 10_state.md R33: PF looks at the low byte only. -/
def Flags.setSZP {n : Nat} (f : Flags) (r : BitVec n) : Flags :=
  { f with ZF := decide (r = 0), SF := r.msb, PF := decide (popcount (r.setWidth 8) % 2 = 0) }

/-- The flags of ADD ADC SUB SBB CMP (40_arithmetic.md R142 to R146): OF SF ZF AF PF CF. -/
def Flags.setArith {n : Nat} (f : Flags) (x : ArithOut n) : Flags :=
  ({ f with CF := x.cf, OF := x.of, AF := x.af } : Flags).setSZP x.r

/-- The flags of INC and DEC (40_arithmetic.md R147, R148): as ADD and SUB, but CF keeps its value. -/
def Flags.setIncDec {n : Nat} (f : Flags) (x : ArithOut n) : Flags :=
  ({ f with OF := x.of, AF := x.af } : Flags).setSZP x.r

/-! ## Undefined flags: each is a fresh free value (00_scope.md R18, 92_eei_decisions.md D4) -/

/-- CF is undefined. -/
def State.undefCF (s : State) : State :=
  { s with flags := { s.flags with CF := Config.freeFlag s.draws }, draws := s.draws + 1 }

/-- PF is undefined. -/
def State.undefPF (s : State) : State :=
  { s with flags := { s.flags with PF := Config.freeFlag s.draws }, draws := s.draws + 1 }

/-- AF is undefined. -/
def State.undefAF (s : State) : State :=
  { s with flags := { s.flags with AF := Config.freeFlag s.draws }, draws := s.draws + 1 }

/-- ZF is undefined. -/
def State.undefZF (s : State) : State :=
  { s with flags := { s.flags with ZF := Config.freeFlag s.draws }, draws := s.draws + 1 }

/-- SF is undefined. -/
def State.undefSF (s : State) : State :=
  { s with flags := { s.flags with SF := Config.freeFlag s.draws }, draws := s.draws + 1 }

/-- OF is undefined. -/
def State.undefOF (s : State) : State :=
  { s with flags := { s.flags with OF := Config.freeFlag s.draws }, draws := s.draws + 1 }

/-- `LogicFlags_N(r)` of 41_logical.md R170: CF and OF cleared, ZF SF PF from the result, AF undefined. -/
def State.logicFlags {n : Nat} (s : State) (r : BitVec n) : State :=
  { s with flags := ({ s.flags with CF := false, OF := false } : Flags).setSZP r }.undefAF

/-! ## The FLAGS word image (10_state.md R38) -/

/-- One flag at its bit of the FLAGS word. -/
def flagBit (b : Bool) (i : Nat) : Word := (BitVec.ofBool b).setWidth 16 <<< i

/-- `PackFlags()` of 10_state.md R38. -/
def Flags.pack (f : Flags) : Word :=
  Config.flagsFixed ||| flagBit f.CF 0 ||| flagBit f.PF 2 ||| flagBit f.AF 4 ||| flagBit f.ZF 6 ||| flagBit f.SF 7
    ||| flagBit f.TF 8 ||| flagBit f.IF 9 ||| flagBit f.DF 10 ||| flagBit f.OF 11

/-- `UnpackFlags(w)` of 10_state.md R38: the other bits of the word are ignored. -/
def Flags.unpack (w : Word) : Flags :=
  { CF := w.getLsbD 0, PF := w.getLsbD 2, AF := w.getLsbD 4, ZF := w.getLsbD 6, SF := w.getLsbD 7
    TF := w.getLsbD 8, IF := w.getLsbD 9, DF := w.getLsbD 10, OF := w.getLsbD 11 }

end Sys2Proof.Machine
end

