-- ==== Sys2Proof/WellFormed.lean ====
section
/-! DEFINITION. What an encodable instruction is. The operand types already bound every field but one: 30_encoding.md R96 gives
the cell mod=00, rm=110 to `[addr16]`, so `[BP]` without a displacement has no encoding. -/

namespace Sys2Proof

/-- `[BP]` with no displacement is not a cell of 30_encoding.md R96. -/
def MemOp.wf : MemOp → Bool
  | .based .bp .none => false
  | .based _ _ => true
  | .direct _ => true

/-- A register operand is always encodable; a memory operand as `MemOp.wf` says. -/
def Rm8.wf : Rm8 → Bool
  | .reg _ => true
  | .mem m => m.wf

/-- A register operand is always encodable; a memory operand as `MemOp.wf` says. -/
def Rm16.wf : Rm16 → Bool
  | .reg _ => true
  | .mem m => m.wf

/-- Whether the instruction has an encoding (30_encoding.md R96, R116, R117). -/
def Instr.wf : Instr → Bool
  | .addRm8R8 rm _ => rm.wf
  | .addRm16R16 rm _ => rm.wf
  | .addR8Rm8 _ rm => rm.wf
  | .addR16Rm16 _ rm => rm.wf
  | .addAlIb _ => true
  | .addAxIw _ => true
  | .pushEs => true
  | .popEs => true
  | .orRm8R8 rm _ => rm.wf
  | .orRm16R16 rm _ => rm.wf
  | .orR8Rm8 _ rm => rm.wf
  | .orR16Rm16 _ rm => rm.wf
  | .orAlIb _ => true
  | .orAxIw _ => true
  | .pushCs => true
  | .unimpl0F => true
  | .adcRm8R8 rm _ => rm.wf
  | .adcRm16R16 rm _ => rm.wf
  | .adcR8Rm8 _ rm => rm.wf
  | .adcR16Rm16 _ rm => rm.wf
  | .adcAlIb _ => true
  | .adcAxIw _ => true
  | .pushSs => true
  | .popSs => true
  | .sbbRm8R8 rm _ => rm.wf
  | .sbbRm16R16 rm _ => rm.wf
  | .sbbR8Rm8 _ rm => rm.wf
  | .sbbR16Rm16 _ rm => rm.wf
  | .sbbAlIb _ => true
  | .sbbAxIw _ => true
  | .pushDs => true
  | .popDs => true
  | .andRm8R8 rm _ => rm.wf
  | .andRm16R16 rm _ => rm.wf
  | .andR8Rm8 _ rm => rm.wf
  | .andR16Rm16 _ rm => rm.wf
  | .andAlIb _ => true
  | .andAxIw _ => true
  | .prefixEs => true
  | .unimpl27 => true
  | .subRm8R8 rm _ => rm.wf
  | .subRm16R16 rm _ => rm.wf
  | .subR8Rm8 _ rm => rm.wf
  | .subR16Rm16 _ rm => rm.wf
  | .subAlIb _ => true
  | .subAxIw _ => true
  | .prefixCs => true
  | .unimpl2F => true
  | .xorRm8R8 rm _ => rm.wf
  | .xorRm16R16 rm _ => rm.wf
  | .xorR8Rm8 _ rm => rm.wf
  | .xorR16Rm16 _ rm => rm.wf
  | .xorAlIb _ => true
  | .xorAxIw _ => true
  | .prefixSs => true
  | .unimpl37 => true
  | .cmpRm8R8 rm _ => rm.wf
  | .cmpRm16R16 rm _ => rm.wf
  | .cmpR8Rm8 _ rm => rm.wf
  | .cmpR16Rm16 _ rm => rm.wf
  | .cmpAlIb _ => true
  | .cmpAxIw _ => true
  | .prefixDs => true
  | .unimpl3F => true
  | .incR16 _ => true
  | .decR16 _ => true
  | .pushR16 _ => true
  | .popR16 _ => true
  | .unimpl60 => true
  | .unimpl61 => true
  | .unimpl62 => true
  | .unimpl63 => true
  | .unimpl64 => true
  | .unimpl65 => true
  | .unimpl66 => true
  | .unimpl67 => true
  | .unimpl68 => true
  | .unimpl69 => true
  | .unimpl6A => true
  | .unimpl6B => true
  | .unimpl6C => true
  | .unimpl6D => true
  | .unimpl6E => true
  | .unimpl6F => true
  | .jo _ => true
  | .jno _ => true
  | .jb _ => true
  | .jnb _ => true
  | .jz _ => true
  | .jnz _ => true
  | .jbe _ => true
  | .ja _ => true
  | .js _ => true
  | .jns _ => true
  | .jpe _ => true
  | .jpo _ => true
  | .jl _ => true
  | .jge _ => true
  | .jle _ => true
  | .jg _ => true
  | .addRm8Ib rm _ => rm.wf
  | .orRm8Ib rm _ => rm.wf
  | .adcRm8Ib rm _ => rm.wf
  | .sbbRm8Ib rm _ => rm.wf
  | .andRm8Ib rm _ => rm.wf
  | .subRm8Ib rm _ => rm.wf
  | .xorRm8Ib rm _ => rm.wf
  | .cmpRm8Ib rm _ => rm.wf
  | .addRm16Iw rm _ => rm.wf
  | .orRm16Iw rm _ => rm.wf
  | .adcRm16Iw rm _ => rm.wf
  | .sbbRm16Iw rm _ => rm.wf
  | .andRm16Iw rm _ => rm.wf
  | .subRm16Iw rm _ => rm.wf
  | .xorRm16Iw rm _ => rm.wf
  | .cmpRm16Iw rm _ => rm.wf
  | .addRm8Ib82 rm _ => rm.wf
  | .orRm8Ib82 rm _ => rm.wf
  | .adcRm8Ib82 rm _ => rm.wf
  | .sbbRm8Ib82 rm _ => rm.wf
  | .andRm8Ib82 rm _ => rm.wf
  | .subRm8Ib82 rm _ => rm.wf
  | .xorRm8Ib82 rm _ => rm.wf
  | .cmpRm8Ib82 rm _ => rm.wf
  | .addRm16Sext rm _ => rm.wf
  | .orRm16Sext rm _ => rm.wf
  | .adcRm16Sext rm _ => rm.wf
  | .sbbRm16Sext rm _ => rm.wf
  | .andRm16Sext rm _ => rm.wf
  | .subRm16Sext rm _ => rm.wf
  | .xorRm16Sext rm _ => rm.wf
  | .cmpRm16Sext rm _ => rm.wf
  | .testRm8R8 rm _ => rm.wf
  | .testRm16R16 rm _ => rm.wf
  | .xchgRm8R8 rm _ => rm.wf
  | .xchgRm16R16 rm _ => rm.wf
  | .movRm8R8 rm _ => rm.wf
  | .movRm16R16 rm _ => rm.wf
  | .movR8Rm8 _ rm => rm.wf
  | .movR16Rm16 _ rm => rm.wf
  | .movRm16Sreg rm _ => rm.wf
  | .unimpl8CReg4to7 _ _ _ => true
  | .leaR16M _ m => m.wf
  | .unimpl8DMod3 _ _ => true
  | .movSregRm16 _ rm => rm.wf
  | .unimpl8EReg4to7 _ _ _ => true
  | .popRm16 rm => rm.wf
  | .unimpl8FSub1 _ _ => true
  | .unimpl8FSub2 _ _ => true
  | .unimpl8FSub3 _ _ => true
  | .unimpl8FSub4 _ _ => true
  | .unimpl8FSub5 _ _ => true
  | .unimpl8FSub6 _ _ => true
  | .unimpl8FSub7 _ _ => true
  | .xchgAxR16 _ => true
  | .unimpl98 => true
  | .unimpl99 => true
  | .callPtr _ _ => true
  | .unimpl9B => true
  | .pushf => true
  | .popf => true
  | .unimpl9E => true
  | .unimpl9F => true
  | .movAlMoffs _ => true
  | .movAxMoffs _ => true
  | .movMoffsAl _ => true
  | .movMoffsAx _ => true
  | .movsb => true
  | .movsw => true
  | .cmpsb => true
  | .cmpsw => true
  | .testAlIb _ => true
  | .testAxIw _ => true
  | .stosb => true
  | .stosw => true
  | .lodsb => true
  | .lodsw => true
  | .scasb => true
  | .scasw => true
  | .movR8Ib _ _ => true
  | .movR16Iw _ _ => true
  | .unimplC0 => true
  | .unimplC1 => true
  | .retIw _ => true
  | .ret => true
  | .lesR16M _ m => m.wf
  | .unimplC4Mod3 _ _ => true
  | .ldsR16M _ m => m.wf
  | .unimplC5Mod3 _ _ => true
  | .movRm8Ib rm _ => rm.wf
  | .unimplC6Sub1 _ _ => true
  | .unimplC6Sub2 _ _ => true
  | .unimplC6Sub3 _ _ => true
  | .unimplC6Sub4 _ _ => true
  | .unimplC6Sub5 _ _ => true
  | .unimplC6Sub6 _ _ => true
  | .unimplC6Sub7 _ _ => true
  | .movRm16Iw rm _ => rm.wf
  | .unimplC7Sub1 _ _ => true
  | .unimplC7Sub2 _ _ => true
  | .unimplC7Sub3 _ _ => true
  | .unimplC7Sub4 _ _ => true
  | .unimplC7Sub5 _ _ => true
  | .unimplC7Sub6 _ _ => true
  | .unimplC7Sub7 _ _ => true
  | .unimplC8 => true
  | .unimplC9 => true
  | .retfIw _ => true
  | .retf => true
  | .int3 => true
  | .intIb _ => true
  | .unimplCE => true
  | .iret => true
  | .rolRm8One rm => rm.wf
  | .rorRm8One rm => rm.wf
  | .rclRm8One rm => rm.wf
  | .rcrRm8One rm => rm.wf
  | .shlRm8One rm => rm.wf
  | .shrRm8One rm => rm.wf
  | .unimplD0Sub6 _ _ => true
  | .sarRm8One rm => rm.wf
  | .rolRm16One rm => rm.wf
  | .rorRm16One rm => rm.wf
  | .rclRm16One rm => rm.wf
  | .rcrRm16One rm => rm.wf
  | .shlRm16One rm => rm.wf
  | .shrRm16One rm => rm.wf
  | .unimplD1Sub6 _ _ => true
  | .sarRm16One rm => rm.wf
  | .rolRm8Cl rm => rm.wf
  | .rorRm8Cl rm => rm.wf
  | .rclRm8Cl rm => rm.wf
  | .rcrRm8Cl rm => rm.wf
  | .shlRm8Cl rm => rm.wf
  | .shrRm8Cl rm => rm.wf
  | .unimplD2Sub6 _ _ => true
  | .sarRm8Cl rm => rm.wf
  | .rolRm16Cl rm => rm.wf
  | .rorRm16Cl rm => rm.wf
  | .rclRm16Cl rm => rm.wf
  | .rcrRm16Cl rm => rm.wf
  | .shlRm16Cl rm => rm.wf
  | .shrRm16Cl rm => rm.wf
  | .unimplD3Sub6 _ _ => true
  | .sarRm16Cl rm => rm.wf
  | .unimplD4 => true
  | .unimplD5 => true
  | .unimplD6 => true
  | .unimplD7 => true
  | .unimplD8 => true
  | .unimplD9 => true
  | .unimplDA => true
  | .unimplDB => true
  | .unimplDC => true
  | .unimplDD => true
  | .unimplDE => true
  | .unimplDF => true
  | .loopne _ => true
  | .loope _ => true
  | .loop _ => true
  | .jcxz _ => true
  | .unimplE4 => true
  | .unimplE5 => true
  | .unimplE6 => true
  | .unimplE7 => true
  | .callRel16 _ => true
  | .jmpRel16 _ => true
  | .jmpPtr _ _ => true
  | .jmpRel8 _ => true
  | .unimplEC => true
  | .unimplED => true
  | .unimplEE => true
  | .unimplEF => true
  | .unimplF0 => true
  | .unimplF1 => true
  | .prefixRepnz => true
  | .prefixRep => true
  | .unimplF4 => true
  | .cmc => true
  | .testRm8Ib rm _ => rm.wf
  | .unimplF6Sub1 _ _ => true
  | .notRm8 rm => rm.wf
  | .unimplF6Sub3 _ _ => true
  | .mulRm8 rm => rm.wf
  | .unimplF6Sub5 _ _ => true
  | .divRm8 rm => rm.wf
  | .unimplF6Sub7 _ _ => true
  | .testRm16Iw rm _ => rm.wf
  | .unimplF7Sub1 _ _ => true
  | .notRm16 rm => rm.wf
  | .unimplF7Sub3 _ _ => true
  | .mulRm16 rm => rm.wf
  | .unimplF7Sub5 _ _ => true
  | .divRm16 rm => rm.wf
  | .unimplF7Sub7 _ _ => true
  | .clc => true
  | .stc => true
  | .cli => true
  | .sti => true
  | .cld => true
  | .std => true
  | .incRm8 rm => rm.wf
  | .decRm8 rm => rm.wf
  | .unimplFESub2 _ _ => true
  | .unimplFESub3 _ _ => true
  | .unimplFESub4 _ _ => true
  | .unimplFESub5 _ _ => true
  | .unimplFESub6 _ _ => true
  | .unimplFESub7 _ _ => true
  | .incRm16 rm => rm.wf
  | .decRm16 rm => rm.wf
  | .callRm16 rm => rm.wf
  | .callM16 m => m.wf
  | .jmpRm16 rm => rm.wf
  | .jmpM16 m => m.wf
  | .pushRm16 rm => rm.wf
  | .unimplFFSub7 _ _ => true
  | .unimplFFSub3Mod3 _ => true
  | .unimplFFSub5Mod3 _ => true

end Sys2Proof
end

