-- ==== Sys2Proof/Decode.lean ====
section
/-! DEFINITION. Decoding bytes to instructions and encoding instructions to bytes, both from the encoding tables of
30_encoding.md (R91 to R103, R116, R117). Every byte sequence that is long enough decodes: the unimplemented encodings decode to
their own constructors (R109). -/

namespace Sys2Proof

/-! ## Byte order (20_memory.md R69): the byte at the lower address, or fetched first, is the low byte. -/

/-- The word whose low byte is `lo` and whose high byte is `hi`. -/
def joinBytes (lo hi : Byte) : Word := hi ++ lo

/-- The low byte of a word. -/
def loByte (w : Word) : Byte := w.extractLsb' 0 8

/-- The high byte of a word. -/
def hiByte (w : Word) : Byte := w.extractLsb' 8 8

/-! ## Register numbers and base expressions -/

/-- reg8[i] of 30_encoding.md R101. -/
def Reg8.ofBits (i : BitVec 3) : Reg8 :=
  match i.toNat with
  | 0 => .al | 1 => .cl | 2 => .dl | 3 => .bl | 4 => .ah | 5 => .ch | 6 => .dh | _ => .bh

/-- The number of a byte register (30_encoding.md R101). -/
def Reg8.bits : Reg8 → BitVec 3
  | .al => 0 | .cl => 1 | .dl => 2 | .bl => 3 | .ah => 4 | .ch => 5 | .dh => 6 | .bh => 7

/-- reg16[i] of 30_encoding.md R100. -/
def Reg16.ofBits (i : BitVec 3) : Reg16 :=
  match i.toNat with
  | 0 => .ax | 1 => .cx | 2 => .dx | 3 => .bx | 4 => .sp | 5 => .bp | 6 => .si | _ => .di

/-- The number of a word register (30_encoding.md R100). -/
def Reg16.bits : Reg16 → BitVec 3
  | .ax => 0 | .cx => 1 | .dx => 2 | .bx => 3 | .sp => 4 | .bp => 5 | .si => 6 | .di => 7

/-- sreg[i] of 30_encoding.md R102. -/
def SReg.ofBits (i : BitVec 2) : SReg :=
  match i.toNat with
  | 0 => .es | 1 => .cs | 2 => .ss | _ => .ds

/-- The number of a segment register (30_encoding.md R102). -/
def SReg.bits : SReg → BitVec 2
  | .es => 0 | .cs => 1 | .ss => 2 | .ds => 3

/-- The base expression of a memory cell by its `rm` field (30_encoding.md R96). -/
def Base.ofBits (i : BitVec 3) : Base :=
  match i.toNat with
  | 0 => .bxSi | 1 => .bxDi | 2 => .bpSi | 3 => .bpDi | 4 => .si | 5 => .di | 6 => .bp | _ => .bx

/-- The `rm` field of a base expression (30_encoding.md R96). -/
def Base.bits : Base → BitVec 3
  | .bxSi => 0 | .bxDi => 1 | .bpSi => 2 | .bpDi => 3 | .si => 4 | .di => 5 | .bp => 6 | .bx => 7

/-! ## Reading the fields of an instruction -/

/-- What the decoder answers: an instruction and the bytes after it, or that the bytes ended inside an instruction. -/
inductive Decoded where
  | ok (i : Instr) (rest : List Byte)
  | truncated
deriving DecidableEq, Repr

/-- The `mod` field of a ModR/M byte (30_encoding.md R95). -/
def modField (b : Byte) : BitVec 2 := b.extractLsb' 6 2

/-- The `reg` field of a ModR/M byte (30_encoding.md R95). -/
def regField (b : Byte) : BitVec 3 := b.extractLsb' 3 3

/-- The `rm` field of a ModR/M byte (30_encoding.md R95). -/
def rmField (b : Byte) : BitVec 3 := b.extractLsb' 0 3

/-- One byte of immediate, displacement or relative offset (30_encoding.md R99). -/
def takeByte (bs : List Byte) (k : Byte → List Byte → Decoded) : Decoded :=
  match bs with
  | b :: rest => k b rest
  | [] => .truncated

/-- Two bytes, low byte first (30_encoding.md R99, 20_memory.md R69). -/
def takeWord (bs : List Byte) (k : Word → List Byte → Decoded) : Decoded :=
  match bs with
  | lo :: hi :: rest => k (joinBytes lo hi) rest
  | _ => .truncated

/-- The memory operand of a ModR/M byte whose `mod` is not 11, with its displacement bytes (30_encoding.md R96, R97). -/
def takeMem (mod : BitVec 2) (rm : BitVec 3) (bs : List Byte) (k : MemOp → List Byte → Decoded) : Decoded :=
  match mod.toNat with
  | 0 => if rm = 6 then takeWord bs fun w rest => k (.direct w) rest else k (.based (Base.ofBits rm) .none) bs
  | 1 => takeByte bs fun d rest => k (.based (Base.ofBits rm) (.d8 d)) rest
  | _ => takeWord bs fun d rest => k (.based (Base.ofBits rm) (.d16 d)) rest

/-- The `r/m8` operand and the `reg` field after the opcode (30_encoding.md R95 to R97). -/
def takeRm8 (bs : List Byte) (k : Rm8 → BitVec 3 → List Byte → Decoded) : Decoded :=
  takeByte bs fun b rest =>
    if modField b = 3 then k (.reg (Reg8.ofBits (rmField b))) (regField b) rest
    else takeMem (modField b) (rmField b) rest fun m rest => k (.mem m) (regField b) rest

/-- The `r/m16` operand and the `reg` field after the opcode (30_encoding.md R95 to R97). -/
def takeRm16 (bs : List Byte) (k : Rm16 → BitVec 3 → List Byte → Decoded) : Decoded :=
  takeByte bs fun b rest =>
    if modField b = 3 then k (.reg (Reg16.ofBits (rmField b))) (regField b) rest
    else takeMem (modField b) (rmField b) rest fun m rest => k (.mem m) (regField b) rest

/-! ## One decoder per operand format (30_encoding.md R126) -/

/-- `/r` with a byte operand: the `r/m8` and the byte register of `reg`. -/
def decRm8R8 (bs : List Byte) (k : Rm8 → Reg8 → Instr) : Decoded :=
  takeRm8 bs fun rm reg rest => .ok (k rm (Reg8.ofBits reg)) rest

/-- `/r` with a word operand: the `r/m16` and the word register of `reg`. -/
def decRm16R16 (bs : List Byte) (k : Rm16 → Reg16 → Instr) : Decoded :=
  takeRm16 bs fun rm reg rest => .ok (k rm (Reg16.ofBits reg)) rest

/-- An `r/m8` whose `reg` field has chosen the operation. -/
def decRm8 (bs : List Byte) (k : Rm8 → Instr) : Decoded :=
  takeRm8 bs fun rm _ rest => .ok (k rm) rest

/-- An `r/m16` whose `reg` field has chosen the operation. -/
def decRm16 (bs : List Byte) (k : Rm16 → Instr) : Decoded :=
  takeRm16 bs fun rm _ rest => .ok (k rm) rest

/-- An `r/m8`, then a byte immediate. -/
def decRm8Ib (bs : List Byte) (k : Rm8 → Byte → Instr) : Decoded :=
  takeRm8 bs fun rm _ rest => takeByte rest fun ib rest => .ok (k rm ib) rest

/-- An `r/m16`, then a byte immediate. -/
def decRm16Ib (bs : List Byte) (k : Rm16 → Byte → Instr) : Decoded :=
  takeRm16 bs fun rm _ rest => takeByte rest fun ib rest => .ok (k rm ib) rest

/-- An `r/m16`, then a word immediate. -/
def decRm16Iw (bs : List Byte) (k : Rm16 → Word → Instr) : Decoded :=
  takeRm16 bs fun rm _ rest => takeWord rest fun iw rest => .ok (k rm iw) rest

/-- A byte immediate or relative offset. -/
def decIb (bs : List Byte) (k : Byte → Instr) : Decoded := takeByte bs fun b rest => .ok (k b) rest

/-- A word immediate, relative offset or direct address. -/
def decIw (bs : List Byte) (k : Word → Instr) : Decoded := takeWord bs fun w rest => .ok (k w) rest

/-- A far pointer: offset, then segment (30_encoding.md R99). -/
def decPtr (bs : List Byte) (k : Word → Word → Instr) : Decoded :=
  takeWord bs fun off rest => takeWord rest fun seg rest => .ok (k off seg) rest

/-- Opcodes `8C` and `8E`: `reg` 0 to 3 names a segment register; 4 to 7 names none (30_encoding.md R102, R122). -/
def decSReg (bs : List Byte) (k : Rm16 → SReg → Instr) (bad : BitVec 2 → BitVec 2 → BitVec 3 → Instr) : Decoded :=
  takeByte bs fun b rest =>
    if b.getLsbD 5 then .ok (bad (modField b) (b.extractLsb' 3 2) (rmField b)) rest
    else takeRm16 bs fun rm reg rest => .ok (k rm (SReg.ofBits (reg.extractLsb' 0 2))) rest

/-- A register and a memory operand; mod=11 is refused by name (30_encoding.md R121). -/
def decMemR16 (bs : List Byte) (k : Reg16 → MemOp → Instr) (bad : BitVec 3 → BitVec 3 → Instr) : Decoded :=
  takeByte bs fun b rest =>
    if modField b = 3 then .ok (bad (regField b) (rmField b)) rest
    else takeMem (modField b) (rmField b) rest fun m rest => .ok (k (Reg16.ofBits (regField b)) m) rest

/-- A memory operand whose `reg` field has chosen the operation; mod=11 is refused by name (30_encoding.md R121). -/
def decMem (bs : List Byte) (k : MemOp → Instr) (bad : BitVec 3 → Instr) : Decoded :=
  takeByte bs fun b rest =>
    if modField b = 3 then .ok (bad (rmField b)) rest
    else takeMem (modField b) (rmField b) rest fun m rest => .ok (k m) rest

/-- An unused group slot: the ModR/M byte alone is read (30_encoding.md R109, R126). -/
def decSlot (bs : List Byte) (k : BitVec 2 → BitVec 3 → Instr) : Decoded :=
  takeByte bs fun b rest => .ok (k (modField b) (rmField b)) rest

/-- The group opcodes: `pick` chooses by the `reg` field of the ModR/M byte, which it leaves in front (30_encoding.md R94, R117). -/
def decGroup (bs : List Byte) (pick : Nat → Decoded) : Decoded :=
  takeByte bs fun b _ => pick (regField b).toNat

/-! ## The groups of 30_encoding.md R117 -/

/-- The slots of opcode `80` (30_encoding.md R117). -/
def decSlots80 (bs : List Byte) (reg : Nat) : Decoded :=
  match reg with
  | 0 => decRm8Ib bs .addRm8Ib
  | 1 => decRm8Ib bs .orRm8Ib
  | 2 => decRm8Ib bs .adcRm8Ib
  | 3 => decRm8Ib bs .sbbRm8Ib
  | 4 => decRm8Ib bs .andRm8Ib
  | 5 => decRm8Ib bs .subRm8Ib
  | 6 => decRm8Ib bs .xorRm8Ib
  | _ => decRm8Ib bs .cmpRm8Ib

/-- The slots of opcode `81` (30_encoding.md R117). -/
def decSlots81 (bs : List Byte) (reg : Nat) : Decoded :=
  match reg with
  | 0 => decRm16Iw bs .addRm16Iw
  | 1 => decRm16Iw bs .orRm16Iw
  | 2 => decRm16Iw bs .adcRm16Iw
  | 3 => decRm16Iw bs .sbbRm16Iw
  | 4 => decRm16Iw bs .andRm16Iw
  | 5 => decRm16Iw bs .subRm16Iw
  | 6 => decRm16Iw bs .xorRm16Iw
  | _ => decRm16Iw bs .cmpRm16Iw

/-- The slots of opcode `82` (30_encoding.md R117). -/
def decSlots82 (bs : List Byte) (reg : Nat) : Decoded :=
  match reg with
  | 0 => decRm8Ib bs .addRm8Ib82
  | 1 => decRm8Ib bs .orRm8Ib82
  | 2 => decRm8Ib bs .adcRm8Ib82
  | 3 => decRm8Ib bs .sbbRm8Ib82
  | 4 => decRm8Ib bs .andRm8Ib82
  | 5 => decRm8Ib bs .subRm8Ib82
  | 6 => decRm8Ib bs .xorRm8Ib82
  | _ => decRm8Ib bs .cmpRm8Ib82

/-- The slots of opcode `83` (30_encoding.md R117). -/
def decSlots83 (bs : List Byte) (reg : Nat) : Decoded :=
  match reg with
  | 0 => decRm16Ib bs .addRm16Sext
  | 1 => decRm16Ib bs .orRm16Sext
  | 2 => decRm16Ib bs .adcRm16Sext
  | 3 => decRm16Ib bs .sbbRm16Sext
  | 4 => decRm16Ib bs .andRm16Sext
  | 5 => decRm16Ib bs .subRm16Sext
  | 6 => decRm16Ib bs .xorRm16Sext
  | _ => decRm16Ib bs .cmpRm16Sext

/-- The slots of opcode `8F` (30_encoding.md R117). -/
def decSlots8F (bs : List Byte) (reg : Nat) : Decoded :=
  match reg with
  | 0 => decRm16 bs .popRm16
  | 1 => decSlot bs .unimpl8FSub1
  | 2 => decSlot bs .unimpl8FSub2
  | 3 => decSlot bs .unimpl8FSub3
  | 4 => decSlot bs .unimpl8FSub4
  | 5 => decSlot bs .unimpl8FSub5
  | 6 => decSlot bs .unimpl8FSub6
  | _ => decSlot bs .unimpl8FSub7

/-- The slots of opcode `C6` (30_encoding.md R117). -/
def decSlotsC6 (bs : List Byte) (reg : Nat) : Decoded :=
  match reg with
  | 0 => decRm8Ib bs .movRm8Ib
  | 1 => decSlot bs .unimplC6Sub1
  | 2 => decSlot bs .unimplC6Sub2
  | 3 => decSlot bs .unimplC6Sub3
  | 4 => decSlot bs .unimplC6Sub4
  | 5 => decSlot bs .unimplC6Sub5
  | 6 => decSlot bs .unimplC6Sub6
  | _ => decSlot bs .unimplC6Sub7

/-- The slots of opcode `C7` (30_encoding.md R117). -/
def decSlotsC7 (bs : List Byte) (reg : Nat) : Decoded :=
  match reg with
  | 0 => decRm16Iw bs .movRm16Iw
  | 1 => decSlot bs .unimplC7Sub1
  | 2 => decSlot bs .unimplC7Sub2
  | 3 => decSlot bs .unimplC7Sub3
  | 4 => decSlot bs .unimplC7Sub4
  | 5 => decSlot bs .unimplC7Sub5
  | 6 => decSlot bs .unimplC7Sub6
  | _ => decSlot bs .unimplC7Sub7

/-- The slots of opcode `D0` (30_encoding.md R117). -/
def decSlotsD0 (bs : List Byte) (reg : Nat) : Decoded :=
  match reg with
  | 0 => decRm8 bs .rolRm8One
  | 1 => decRm8 bs .rorRm8One
  | 2 => decRm8 bs .rclRm8One
  | 3 => decRm8 bs .rcrRm8One
  | 4 => decRm8 bs .shlRm8One
  | 5 => decRm8 bs .shrRm8One
  | 6 => decSlot bs .unimplD0Sub6
  | _ => decRm8 bs .sarRm8One

/-- The slots of opcode `D1` (30_encoding.md R117). -/
def decSlotsD1 (bs : List Byte) (reg : Nat) : Decoded :=
  match reg with
  | 0 => decRm16 bs .rolRm16One
  | 1 => decRm16 bs .rorRm16One
  | 2 => decRm16 bs .rclRm16One
  | 3 => decRm16 bs .rcrRm16One
  | 4 => decRm16 bs .shlRm16One
  | 5 => decRm16 bs .shrRm16One
  | 6 => decSlot bs .unimplD1Sub6
  | _ => decRm16 bs .sarRm16One

/-- The slots of opcode `D2` (30_encoding.md R117). -/
def decSlotsD2 (bs : List Byte) (reg : Nat) : Decoded :=
  match reg with
  | 0 => decRm8 bs .rolRm8Cl
  | 1 => decRm8 bs .rorRm8Cl
  | 2 => decRm8 bs .rclRm8Cl
  | 3 => decRm8 bs .rcrRm8Cl
  | 4 => decRm8 bs .shlRm8Cl
  | 5 => decRm8 bs .shrRm8Cl
  | 6 => decSlot bs .unimplD2Sub6
  | _ => decRm8 bs .sarRm8Cl

/-- The slots of opcode `D3` (30_encoding.md R117). -/
def decSlotsD3 (bs : List Byte) (reg : Nat) : Decoded :=
  match reg with
  | 0 => decRm16 bs .rolRm16Cl
  | 1 => decRm16 bs .rorRm16Cl
  | 2 => decRm16 bs .rclRm16Cl
  | 3 => decRm16 bs .rcrRm16Cl
  | 4 => decRm16 bs .shlRm16Cl
  | 5 => decRm16 bs .shrRm16Cl
  | 6 => decSlot bs .unimplD3Sub6
  | _ => decRm16 bs .sarRm16Cl

/-- The slots of opcode `F6` (30_encoding.md R117). -/
def decSlotsF6 (bs : List Byte) (reg : Nat) : Decoded :=
  match reg with
  | 0 => decRm8Ib bs .testRm8Ib
  | 1 => decSlot bs .unimplF6Sub1
  | 2 => decRm8 bs .notRm8
  | 3 => decSlot bs .unimplF6Sub3
  | 4 => decRm8 bs .mulRm8
  | 5 => decSlot bs .unimplF6Sub5
  | 6 => decRm8 bs .divRm8
  | _ => decSlot bs .unimplF6Sub7

/-- The slots of opcode `F7` (30_encoding.md R117). -/
def decSlotsF7 (bs : List Byte) (reg : Nat) : Decoded :=
  match reg with
  | 0 => decRm16Iw bs .testRm16Iw
  | 1 => decSlot bs .unimplF7Sub1
  | 2 => decRm16 bs .notRm16
  | 3 => decSlot bs .unimplF7Sub3
  | 4 => decRm16 bs .mulRm16
  | 5 => decSlot bs .unimplF7Sub5
  | 6 => decRm16 bs .divRm16
  | _ => decSlot bs .unimplF7Sub7

/-- The slots of opcode `FE` (30_encoding.md R117). -/
def decSlotsFE (bs : List Byte) (reg : Nat) : Decoded :=
  match reg with
  | 0 => decRm8 bs .incRm8
  | 1 => decRm8 bs .decRm8
  | 2 => decSlot bs .unimplFESub2
  | 3 => decSlot bs .unimplFESub3
  | 4 => decSlot bs .unimplFESub4
  | 5 => decSlot bs .unimplFESub5
  | 6 => decSlot bs .unimplFESub6
  | _ => decSlot bs .unimplFESub7

/-- The slots of opcode `FF` (30_encoding.md R117). -/
def decSlotsFF (bs : List Byte) (reg : Nat) : Decoded :=
  match reg with
  | 0 => decRm16 bs .incRm16
  | 1 => decRm16 bs .decRm16
  | 2 => decRm16 bs .callRm16
  | 3 => decMem bs .callM16 .unimplFFSub3Mod3
  | 4 => decRm16 bs .jmpRm16
  | 5 => decMem bs .jmpM16 .unimplFFSub5Mod3
  | 6 => decRm16 bs .pushRm16
  | _ => decSlot bs .unimplFFSub7

/-! ## The opcode map of 30_encoding.md R116, one row of sixteen opcodes at a time (`lo` is the low half of the opcode) -/

/-- Opcodes `00` to `0F` (30_encoding.md R116). -/
def decRow0 (lo : Nat) (bs : List Byte) : Decoded :=
  match lo with
  | 0 => decRm8R8 bs .addRm8R8
  | 1 => decRm16R16 bs .addRm16R16
  | 2 => decRm8R8 bs fun rm r => .addR8Rm8 r rm
  | 3 => decRm16R16 bs fun rm r => .addR16Rm16 r rm
  | 4 => decIb bs .addAlIb
  | 5 => decIw bs .addAxIw
  | 6 => .ok .pushEs bs
  | 7 => .ok .popEs bs
  | 8 => decRm8R8 bs .orRm8R8
  | 9 => decRm16R16 bs .orRm16R16
  | 10 => decRm8R8 bs fun rm r => .orR8Rm8 r rm
  | 11 => decRm16R16 bs fun rm r => .orR16Rm16 r rm
  | 12 => decIb bs .orAlIb
  | 13 => decIw bs .orAxIw
  | 14 => .ok .pushCs bs
  | _ => .ok .unimpl0F bs

/-- Opcodes `10` to `1F` (30_encoding.md R116). -/
def decRow1 (lo : Nat) (bs : List Byte) : Decoded :=
  match lo with
  | 0 => decRm8R8 bs .adcRm8R8
  | 1 => decRm16R16 bs .adcRm16R16
  | 2 => decRm8R8 bs fun rm r => .adcR8Rm8 r rm
  | 3 => decRm16R16 bs fun rm r => .adcR16Rm16 r rm
  | 4 => decIb bs .adcAlIb
  | 5 => decIw bs .adcAxIw
  | 6 => .ok .pushSs bs
  | 7 => .ok .popSs bs
  | 8 => decRm8R8 bs .sbbRm8R8
  | 9 => decRm16R16 bs .sbbRm16R16
  | 10 => decRm8R8 bs fun rm r => .sbbR8Rm8 r rm
  | 11 => decRm16R16 bs fun rm r => .sbbR16Rm16 r rm
  | 12 => decIb bs .sbbAlIb
  | 13 => decIw bs .sbbAxIw
  | 14 => .ok .pushDs bs
  | _ => .ok .popDs bs

/-- Opcodes `20` to `2F` (30_encoding.md R116). -/
def decRow2 (lo : Nat) (bs : List Byte) : Decoded :=
  match lo with
  | 0 => decRm8R8 bs .andRm8R8
  | 1 => decRm16R16 bs .andRm16R16
  | 2 => decRm8R8 bs fun rm r => .andR8Rm8 r rm
  | 3 => decRm16R16 bs fun rm r => .andR16Rm16 r rm
  | 4 => decIb bs .andAlIb
  | 5 => decIw bs .andAxIw
  | 6 => .ok .prefixEs bs
  | 7 => .ok .unimpl27 bs
  | 8 => decRm8R8 bs .subRm8R8
  | 9 => decRm16R16 bs .subRm16R16
  | 10 => decRm8R8 bs fun rm r => .subR8Rm8 r rm
  | 11 => decRm16R16 bs fun rm r => .subR16Rm16 r rm
  | 12 => decIb bs .subAlIb
  | 13 => decIw bs .subAxIw
  | 14 => .ok .prefixCs bs
  | _ => .ok .unimpl2F bs

/-- Opcodes `30` to `3F` (30_encoding.md R116). -/
def decRow3 (lo : Nat) (bs : List Byte) : Decoded :=
  match lo with
  | 0 => decRm8R8 bs .xorRm8R8
  | 1 => decRm16R16 bs .xorRm16R16
  | 2 => decRm8R8 bs fun rm r => .xorR8Rm8 r rm
  | 3 => decRm16R16 bs fun rm r => .xorR16Rm16 r rm
  | 4 => decIb bs .xorAlIb
  | 5 => decIw bs .xorAxIw
  | 6 => .ok .prefixSs bs
  | 7 => .ok .unimpl37 bs
  | 8 => decRm8R8 bs .cmpRm8R8
  | 9 => decRm16R16 bs .cmpRm16R16
  | 10 => decRm8R8 bs fun rm r => .cmpR8Rm8 r rm
  | 11 => decRm16R16 bs fun rm r => .cmpR16Rm16 r rm
  | 12 => decIb bs .cmpAlIb
  | 13 => decIw bs .cmpAxIw
  | 14 => .ok .prefixDs bs
  | _ => .ok .unimpl3F bs

/-- Opcodes `40` to `4F` (30_encoding.md R116). -/
def decRow4 (lo : Nat) (bs : List Byte) : Decoded :=
  match lo with
  | 0 => .ok (.incR16 .ax) bs
  | 1 => .ok (.incR16 .cx) bs
  | 2 => .ok (.incR16 .dx) bs
  | 3 => .ok (.incR16 .bx) bs
  | 4 => .ok (.incR16 .sp) bs
  | 5 => .ok (.incR16 .bp) bs
  | 6 => .ok (.incR16 .si) bs
  | 7 => .ok (.incR16 .di) bs
  | 8 => .ok (.decR16 .ax) bs
  | 9 => .ok (.decR16 .cx) bs
  | 10 => .ok (.decR16 .dx) bs
  | 11 => .ok (.decR16 .bx) bs
  | 12 => .ok (.decR16 .sp) bs
  | 13 => .ok (.decR16 .bp) bs
  | 14 => .ok (.decR16 .si) bs
  | _ => .ok (.decR16 .di) bs

/-- Opcodes `50` to `5F` (30_encoding.md R116). -/
def decRow5 (lo : Nat) (bs : List Byte) : Decoded :=
  match lo with
  | 0 => .ok (.pushR16 .ax) bs
  | 1 => .ok (.pushR16 .cx) bs
  | 2 => .ok (.pushR16 .dx) bs
  | 3 => .ok (.pushR16 .bx) bs
  | 4 => .ok (.pushR16 .sp) bs
  | 5 => .ok (.pushR16 .bp) bs
  | 6 => .ok (.pushR16 .si) bs
  | 7 => .ok (.pushR16 .di) bs
  | 8 => .ok (.popR16 .ax) bs
  | 9 => .ok (.popR16 .cx) bs
  | 10 => .ok (.popR16 .dx) bs
  | 11 => .ok (.popR16 .bx) bs
  | 12 => .ok (.popR16 .sp) bs
  | 13 => .ok (.popR16 .bp) bs
  | 14 => .ok (.popR16 .si) bs
  | _ => .ok (.popR16 .di) bs

/-- Opcodes `60` to `6F` (30_encoding.md R116). -/
def decRow6 (lo : Nat) (bs : List Byte) : Decoded :=
  match lo with
  | 0 => .ok .unimpl60 bs
  | 1 => .ok .unimpl61 bs
  | 2 => .ok .unimpl62 bs
  | 3 => .ok .unimpl63 bs
  | 4 => .ok .unimpl64 bs
  | 5 => .ok .unimpl65 bs
  | 6 => .ok .unimpl66 bs
  | 7 => .ok .unimpl67 bs
  | 8 => .ok .unimpl68 bs
  | 9 => .ok .unimpl69 bs
  | 10 => .ok .unimpl6A bs
  | 11 => .ok .unimpl6B bs
  | 12 => .ok .unimpl6C bs
  | 13 => .ok .unimpl6D bs
  | 14 => .ok .unimpl6E bs
  | _ => .ok .unimpl6F bs

/-- Opcodes `70` to `7F` (30_encoding.md R116). -/
def decRow7 (lo : Nat) (bs : List Byte) : Decoded :=
  match lo with
  | 0 => decIb bs .jo
  | 1 => decIb bs .jno
  | 2 => decIb bs .jb
  | 3 => decIb bs .jnb
  | 4 => decIb bs .jz
  | 5 => decIb bs .jnz
  | 6 => decIb bs .jbe
  | 7 => decIb bs .ja
  | 8 => decIb bs .js
  | 9 => decIb bs .jns
  | 10 => decIb bs .jpe
  | 11 => decIb bs .jpo
  | 12 => decIb bs .jl
  | 13 => decIb bs .jge
  | 14 => decIb bs .jle
  | _ => decIb bs .jg

/-- Opcodes `80` to `8F` (30_encoding.md R116). -/
def decRow8 (lo : Nat) (bs : List Byte) : Decoded :=
  match lo with
  | 0 => decGroup bs (decSlots80 bs)
  | 1 => decGroup bs (decSlots81 bs)
  | 2 => decGroup bs (decSlots82 bs)
  | 3 => decGroup bs (decSlots83 bs)
  | 4 => decRm8R8 bs .testRm8R8
  | 5 => decRm16R16 bs .testRm16R16
  | 6 => decRm8R8 bs .xchgRm8R8
  | 7 => decRm16R16 bs .xchgRm16R16
  | 8 => decRm8R8 bs .movRm8R8
  | 9 => decRm16R16 bs .movRm16R16
  | 10 => decRm8R8 bs fun rm r => .movR8Rm8 r rm
  | 11 => decRm16R16 bs fun rm r => .movR16Rm16 r rm
  | 12 => decSReg bs .movRm16Sreg .unimpl8CReg4to7
  | 13 => decMemR16 bs .leaR16M .unimpl8DMod3
  | 14 => decSReg bs (fun rm sr => .movSregRm16 sr rm) .unimpl8EReg4to7
  | _ => decGroup bs (decSlots8F bs)

/-- Opcodes `90` to `9F` (30_encoding.md R116). -/
def decRow9 (lo : Nat) (bs : List Byte) : Decoded :=
  match lo with
  | 0 => .ok (.xchgAxR16 .ax) bs
  | 1 => .ok (.xchgAxR16 .cx) bs
  | 2 => .ok (.xchgAxR16 .dx) bs
  | 3 => .ok (.xchgAxR16 .bx) bs
  | 4 => .ok (.xchgAxR16 .sp) bs
  | 5 => .ok (.xchgAxR16 .bp) bs
  | 6 => .ok (.xchgAxR16 .si) bs
  | 7 => .ok (.xchgAxR16 .di) bs
  | 8 => .ok .unimpl98 bs
  | 9 => .ok .unimpl99 bs
  | 10 => decPtr bs .callPtr
  | 11 => .ok .unimpl9B bs
  | 12 => .ok .pushf bs
  | 13 => .ok .popf bs
  | 14 => .ok .unimpl9E bs
  | _ => .ok .unimpl9F bs

/-- Opcodes `A0` to `AF` (30_encoding.md R116). -/
def decRowA (lo : Nat) (bs : List Byte) : Decoded :=
  match lo with
  | 0 => decIw bs .movAlMoffs
  | 1 => decIw bs .movAxMoffs
  | 2 => decIw bs .movMoffsAl
  | 3 => decIw bs .movMoffsAx
  | 4 => .ok .movsb bs
  | 5 => .ok .movsw bs
  | 6 => .ok .cmpsb bs
  | 7 => .ok .cmpsw bs
  | 8 => decIb bs .testAlIb
  | 9 => decIw bs .testAxIw
  | 10 => .ok .stosb bs
  | 11 => .ok .stosw bs
  | 12 => .ok .lodsb bs
  | 13 => .ok .lodsw bs
  | 14 => .ok .scasb bs
  | _ => .ok .scasw bs

/-- Opcodes `B0` to `BF` (30_encoding.md R116). -/
def decRowB (lo : Nat) (bs : List Byte) : Decoded :=
  match lo with
  | 0 => decIb bs (.movR8Ib .al)
  | 1 => decIb bs (.movR8Ib .cl)
  | 2 => decIb bs (.movR8Ib .dl)
  | 3 => decIb bs (.movR8Ib .bl)
  | 4 => decIb bs (.movR8Ib .ah)
  | 5 => decIb bs (.movR8Ib .ch)
  | 6 => decIb bs (.movR8Ib .dh)
  | 7 => decIb bs (.movR8Ib .bh)
  | 8 => decIw bs (.movR16Iw .ax)
  | 9 => decIw bs (.movR16Iw .cx)
  | 10 => decIw bs (.movR16Iw .dx)
  | 11 => decIw bs (.movR16Iw .bx)
  | 12 => decIw bs (.movR16Iw .sp)
  | 13 => decIw bs (.movR16Iw .bp)
  | 14 => decIw bs (.movR16Iw .si)
  | _ => decIw bs (.movR16Iw .di)

/-- Opcodes `C0` to `CF` (30_encoding.md R116). -/
def decRowC (lo : Nat) (bs : List Byte) : Decoded :=
  match lo with
  | 0 => .ok .unimplC0 bs
  | 1 => .ok .unimplC1 bs
  | 2 => decIw bs .retIw
  | 3 => .ok .ret bs
  | 4 => decMemR16 bs .lesR16M .unimplC4Mod3
  | 5 => decMemR16 bs .ldsR16M .unimplC5Mod3
  | 6 => decGroup bs (decSlotsC6 bs)
  | 7 => decGroup bs (decSlotsC7 bs)
  | 8 => .ok .unimplC8 bs
  | 9 => .ok .unimplC9 bs
  | 10 => decIw bs .retfIw
  | 11 => .ok .retf bs
  | 12 => .ok .int3 bs
  | 13 => decIb bs .intIb
  | 14 => .ok .unimplCE bs
  | _ => .ok .iret bs

/-- Opcodes `D0` to `DF` (30_encoding.md R116). -/
def decRowD (lo : Nat) (bs : List Byte) : Decoded :=
  match lo with
  | 0 => decGroup bs (decSlotsD0 bs)
  | 1 => decGroup bs (decSlotsD1 bs)
  | 2 => decGroup bs (decSlotsD2 bs)
  | 3 => decGroup bs (decSlotsD3 bs)
  | 4 => .ok .unimplD4 bs
  | 5 => .ok .unimplD5 bs
  | 6 => .ok .unimplD6 bs
  | 7 => .ok .unimplD7 bs
  | 8 => .ok .unimplD8 bs
  | 9 => .ok .unimplD9 bs
  | 10 => .ok .unimplDA bs
  | 11 => .ok .unimplDB bs
  | 12 => .ok .unimplDC bs
  | 13 => .ok .unimplDD bs
  | 14 => .ok .unimplDE bs
  | _ => .ok .unimplDF bs

/-- Opcodes `E0` to `EF` (30_encoding.md R116). -/
def decRowE (lo : Nat) (bs : List Byte) : Decoded :=
  match lo with
  | 0 => decIb bs .loopne
  | 1 => decIb bs .loope
  | 2 => decIb bs .loop
  | 3 => decIb bs .jcxz
  | 4 => .ok .unimplE4 bs
  | 5 => .ok .unimplE5 bs
  | 6 => .ok .unimplE6 bs
  | 7 => .ok .unimplE7 bs
  | 8 => decIw bs .callRel16
  | 9 => decIw bs .jmpRel16
  | 10 => decPtr bs .jmpPtr
  | 11 => decIb bs .jmpRel8
  | 12 => .ok .unimplEC bs
  | 13 => .ok .unimplED bs
  | 14 => .ok .unimplEE bs
  | _ => .ok .unimplEF bs

/-- Opcodes `F0` to `FF` (30_encoding.md R116). -/
def decRowF (lo : Nat) (bs : List Byte) : Decoded :=
  match lo with
  | 0 => .ok .unimplF0 bs
  | 1 => .ok .unimplF1 bs
  | 2 => .ok .prefixRepnz bs
  | 3 => .ok .prefixRep bs
  | 4 => .ok .unimplF4 bs
  | 5 => .ok .cmc bs
  | 6 => decGroup bs (decSlotsF6 bs)
  | 7 => decGroup bs (decSlotsF7 bs)
  | 8 => .ok .clc bs
  | 9 => .ok .stc bs
  | 10 => .ok .cli bs
  | 11 => .ok .sti bs
  | 12 => .ok .cld bs
  | 13 => .ok .std bs
  | 14 => decGroup bs (decSlotsFE bs)
  | _ => decGroup bs (decSlotsFF bs)

/-- The instruction at the front of a list of bytes: the prefix rows decode alone, one byte each; every other row with all its
operand bytes (30_encoding.md R90, R108, R116). -/
def decode : List Byte → Decoded
  | [] => .truncated
  | op :: bs =>
    match op.toNat / 16 with
    | 0 => decRow0 (op.toNat % 16) bs
    | 1 => decRow1 (op.toNat % 16) bs
    | 2 => decRow2 (op.toNat % 16) bs
    | 3 => decRow3 (op.toNat % 16) bs
    | 4 => decRow4 (op.toNat % 16) bs
    | 5 => decRow5 (op.toNat % 16) bs
    | 6 => decRow6 (op.toNat % 16) bs
    | 7 => decRow7 (op.toNat % 16) bs
    | 8 => decRow8 (op.toNat % 16) bs
    | 9 => decRow9 (op.toNat % 16) bs
    | 10 => decRowA (op.toNat % 16) bs
    | 11 => decRowB (op.toNat % 16) bs
    | 12 => decRowC (op.toNat % 16) bs
    | 13 => decRowD (op.toNat % 16) bs
    | 14 => decRowE (op.toNat % 16) bs
    | _ => decRowF (op.toNat % 16) bs

/-! ## Encoding -/

/-- A word as its two bytes, low byte first (20_memory.md R69). -/
def encWord (w : Word) : List Byte := [loByte w, hiByte w]

/-- The ModR/M byte (30_encoding.md R95). -/
def modRM (mod : BitVec 2) (reg rm : BitVec 3) : Byte := mod ++ reg ++ rm

/-- The ModR/M byte and displacement of a memory operand (30_encoding.md R96, R97). -/
def encMem (m : MemOp) (reg : BitVec 3) : List Byte :=
  match m with
  | .based b .none => [modRM 0 reg b.bits]
  | .based b (.d8 d) => [modRM 1 reg b.bits, d]
  | .based b (.d16 d) => modRM 2 reg b.bits :: encWord d
  | .direct a => modRM 0 reg 6 :: encWord a

/-- The ModR/M byte and displacement of an `r/m8` operand. -/
def encRm8 (rm : Rm8) (reg : BitVec 3) : List Byte :=
  match rm with
  | .reg r => [modRM 3 reg r.bits]
  | .mem m => encMem m reg

/-- The ModR/M byte and displacement of an `r/m16` operand. -/
def encRm16 (rm : Rm16) (reg : BitVec 3) : List Byte :=
  match rm with
  | .reg r => [modRM 3 reg r.bits]
  | .mem m => encMem m reg

/-- An opcode whose low three bits name a register (30_encoding.md R126, formats `OP_R*`). -/
def opPlus (high : BitVec 5) (r : BitVec 3) : Byte := high ++ r

/-- The bytes of an instruction (30_encoding.md R116, R117, R126). -/
def encode : Instr → List Byte
  | .addRm8R8 rm r => 0x00 :: encRm8 rm r.bits
  | .addRm16R16 rm r => 0x01 :: encRm16 rm r.bits
  | .addR8Rm8 r rm => 0x02 :: encRm8 rm r.bits
  | .addR16Rm16 r rm => 0x03 :: encRm16 rm r.bits
  | .addAlIb ib => [0x04, ib]
  | .addAxIw iw => 0x05 :: encWord iw
  | .pushEs => [0x06]
  | .popEs => [0x07]
  | .orRm8R8 rm r => 0x08 :: encRm8 rm r.bits
  | .orRm16R16 rm r => 0x09 :: encRm16 rm r.bits
  | .orR8Rm8 r rm => 0x0A :: encRm8 rm r.bits
  | .orR16Rm16 r rm => 0x0B :: encRm16 rm r.bits
  | .orAlIb ib => [0x0C, ib]
  | .orAxIw iw => 0x0D :: encWord iw
  | .pushCs => [0x0E]
  | .unimpl0F => [0x0F]
  | .adcRm8R8 rm r => 0x10 :: encRm8 rm r.bits
  | .adcRm16R16 rm r => 0x11 :: encRm16 rm r.bits
  | .adcR8Rm8 r rm => 0x12 :: encRm8 rm r.bits
  | .adcR16Rm16 r rm => 0x13 :: encRm16 rm r.bits
  | .adcAlIb ib => [0x14, ib]
  | .adcAxIw iw => 0x15 :: encWord iw
  | .pushSs => [0x16]
  | .popSs => [0x17]
  | .sbbRm8R8 rm r => 0x18 :: encRm8 rm r.bits
  | .sbbRm16R16 rm r => 0x19 :: encRm16 rm r.bits
  | .sbbR8Rm8 r rm => 0x1A :: encRm8 rm r.bits
  | .sbbR16Rm16 r rm => 0x1B :: encRm16 rm r.bits
  | .sbbAlIb ib => [0x1C, ib]
  | .sbbAxIw iw => 0x1D :: encWord iw
  | .pushDs => [0x1E]
  | .popDs => [0x1F]
  | .andRm8R8 rm r => 0x20 :: encRm8 rm r.bits
  | .andRm16R16 rm r => 0x21 :: encRm16 rm r.bits
  | .andR8Rm8 r rm => 0x22 :: encRm8 rm r.bits
  | .andR16Rm16 r rm => 0x23 :: encRm16 rm r.bits
  | .andAlIb ib => [0x24, ib]
  | .andAxIw iw => 0x25 :: encWord iw
  | .prefixEs => [0x26]
  | .unimpl27 => [0x27]
  | .subRm8R8 rm r => 0x28 :: encRm8 rm r.bits
  | .subRm16R16 rm r => 0x29 :: encRm16 rm r.bits
  | .subR8Rm8 r rm => 0x2A :: encRm8 rm r.bits
  | .subR16Rm16 r rm => 0x2B :: encRm16 rm r.bits
  | .subAlIb ib => [0x2C, ib]
  | .subAxIw iw => 0x2D :: encWord iw
  | .prefixCs => [0x2E]
  | .unimpl2F => [0x2F]
  | .xorRm8R8 rm r => 0x30 :: encRm8 rm r.bits
  | .xorRm16R16 rm r => 0x31 :: encRm16 rm r.bits
  | .xorR8Rm8 r rm => 0x32 :: encRm8 rm r.bits
  | .xorR16Rm16 r rm => 0x33 :: encRm16 rm r.bits
  | .xorAlIb ib => [0x34, ib]
  | .xorAxIw iw => 0x35 :: encWord iw
  | .prefixSs => [0x36]
  | .unimpl37 => [0x37]
  | .cmpRm8R8 rm r => 0x38 :: encRm8 rm r.bits
  | .cmpRm16R16 rm r => 0x39 :: encRm16 rm r.bits
  | .cmpR8Rm8 r rm => 0x3A :: encRm8 rm r.bits
  | .cmpR16Rm16 r rm => 0x3B :: encRm16 rm r.bits
  | .cmpAlIb ib => [0x3C, ib]
  | .cmpAxIw iw => 0x3D :: encWord iw
  | .prefixDs => [0x3E]
  | .unimpl3F => [0x3F]
  | .incR16 r => [opPlus 8 r.bits]
  | .decR16 r => [opPlus 9 r.bits]
  | .pushR16 r => [opPlus 10 r.bits]
  | .popR16 r => [opPlus 11 r.bits]
  | .unimpl60 => [0x60]
  | .unimpl61 => [0x61]
  | .unimpl62 => [0x62]
  | .unimpl63 => [0x63]
  | .unimpl64 => [0x64]
  | .unimpl65 => [0x65]
  | .unimpl66 => [0x66]
  | .unimpl67 => [0x67]
  | .unimpl68 => [0x68]
  | .unimpl69 => [0x69]
  | .unimpl6A => [0x6A]
  | .unimpl6B => [0x6B]
  | .unimpl6C => [0x6C]
  | .unimpl6D => [0x6D]
  | .unimpl6E => [0x6E]
  | .unimpl6F => [0x6F]
  | .jo rel => [0x70, rel]
  | .jno rel => [0x71, rel]
  | .jb rel => [0x72, rel]
  | .jnb rel => [0x73, rel]
  | .jz rel => [0x74, rel]
  | .jnz rel => [0x75, rel]
  | .jbe rel => [0x76, rel]
  | .ja rel => [0x77, rel]
  | .js rel => [0x78, rel]
  | .jns rel => [0x79, rel]
  | .jpe rel => [0x7A, rel]
  | .jpo rel => [0x7B, rel]
  | .jl rel => [0x7C, rel]
  | .jge rel => [0x7D, rel]
  | .jle rel => [0x7E, rel]
  | .jg rel => [0x7F, rel]
  | .addRm8Ib rm ib => 0x80 :: (encRm8 rm 0 ++ [ib])
  | .orRm8Ib rm ib => 0x80 :: (encRm8 rm 1 ++ [ib])
  | .adcRm8Ib rm ib => 0x80 :: (encRm8 rm 2 ++ [ib])
  | .sbbRm8Ib rm ib => 0x80 :: (encRm8 rm 3 ++ [ib])
  | .andRm8Ib rm ib => 0x80 :: (encRm8 rm 4 ++ [ib])
  | .subRm8Ib rm ib => 0x80 :: (encRm8 rm 5 ++ [ib])
  | .xorRm8Ib rm ib => 0x80 :: (encRm8 rm 6 ++ [ib])
  | .cmpRm8Ib rm ib => 0x80 :: (encRm8 rm 7 ++ [ib])
  | .addRm16Iw rm iw => 0x81 :: (encRm16 rm 0 ++ encWord iw)
  | .orRm16Iw rm iw => 0x81 :: (encRm16 rm 1 ++ encWord iw)
  | .adcRm16Iw rm iw => 0x81 :: (encRm16 rm 2 ++ encWord iw)
  | .sbbRm16Iw rm iw => 0x81 :: (encRm16 rm 3 ++ encWord iw)
  | .andRm16Iw rm iw => 0x81 :: (encRm16 rm 4 ++ encWord iw)
  | .subRm16Iw rm iw => 0x81 :: (encRm16 rm 5 ++ encWord iw)
  | .xorRm16Iw rm iw => 0x81 :: (encRm16 rm 6 ++ encWord iw)
  | .cmpRm16Iw rm iw => 0x81 :: (encRm16 rm 7 ++ encWord iw)
  | .addRm8Ib82 rm ib => 0x82 :: (encRm8 rm 0 ++ [ib])
  | .orRm8Ib82 rm ib => 0x82 :: (encRm8 rm 1 ++ [ib])
  | .adcRm8Ib82 rm ib => 0x82 :: (encRm8 rm 2 ++ [ib])
  | .sbbRm8Ib82 rm ib => 0x82 :: (encRm8 rm 3 ++ [ib])
  | .andRm8Ib82 rm ib => 0x82 :: (encRm8 rm 4 ++ [ib])
  | .subRm8Ib82 rm ib => 0x82 :: (encRm8 rm 5 ++ [ib])
  | .xorRm8Ib82 rm ib => 0x82 :: (encRm8 rm 6 ++ [ib])
  | .cmpRm8Ib82 rm ib => 0x82 :: (encRm8 rm 7 ++ [ib])
  | .addRm16Sext rm ib => 0x83 :: (encRm16 rm 0 ++ [ib])
  | .orRm16Sext rm ib => 0x83 :: (encRm16 rm 1 ++ [ib])
  | .adcRm16Sext rm ib => 0x83 :: (encRm16 rm 2 ++ [ib])
  | .sbbRm16Sext rm ib => 0x83 :: (encRm16 rm 3 ++ [ib])
  | .andRm16Sext rm ib => 0x83 :: (encRm16 rm 4 ++ [ib])
  | .subRm16Sext rm ib => 0x83 :: (encRm16 rm 5 ++ [ib])
  | .xorRm16Sext rm ib => 0x83 :: (encRm16 rm 6 ++ [ib])
  | .cmpRm16Sext rm ib => 0x83 :: (encRm16 rm 7 ++ [ib])
  | .testRm8R8 rm r => 0x84 :: encRm8 rm r.bits
  | .testRm16R16 rm r => 0x85 :: encRm16 rm r.bits
  | .xchgRm8R8 rm r => 0x86 :: encRm8 rm r.bits
  | .xchgRm16R16 rm r => 0x87 :: encRm16 rm r.bits
  | .movRm8R8 rm r => 0x88 :: encRm8 rm r.bits
  | .movRm16R16 rm r => 0x89 :: encRm16 rm r.bits
  | .movR8Rm8 r rm => 0x8A :: encRm8 rm r.bits
  | .movR16Rm16 r rm => 0x8B :: encRm16 rm r.bits
  | .movRm16Sreg rm sr => 0x8C :: encRm16 rm (0#1 ++ sr.bits)
  | .unimpl8CReg4to7 mod reg rm => [0x8C, modRM mod (1#1 ++ reg) rm]
  | .leaR16M r m => 0x8D :: encMem m r.bits
  | .unimpl8DMod3 reg rm => [0x8D, modRM 3 reg rm]
  | .movSregRm16 sr rm => 0x8E :: encRm16 rm (0#1 ++ sr.bits)
  | .unimpl8EReg4to7 mod reg rm => [0x8E, modRM mod (1#1 ++ reg) rm]
  | .popRm16 rm => 0x8F :: encRm16 rm 0
  | .unimpl8FSub1 mod rm => [0x8F, modRM mod 1 rm]
  | .unimpl8FSub2 mod rm => [0x8F, modRM mod 2 rm]
  | .unimpl8FSub3 mod rm => [0x8F, modRM mod 3 rm]
  | .unimpl8FSub4 mod rm => [0x8F, modRM mod 4 rm]
  | .unimpl8FSub5 mod rm => [0x8F, modRM mod 5 rm]
  | .unimpl8FSub6 mod rm => [0x8F, modRM mod 6 rm]
  | .unimpl8FSub7 mod rm => [0x8F, modRM mod 7 rm]
  | .xchgAxR16 r => [opPlus 18 r.bits]
  | .unimpl98 => [0x98]
  | .unimpl99 => [0x99]
  | .callPtr off seg => 0x9A :: (encWord off ++ encWord seg)
  | .unimpl9B => [0x9B]
  | .pushf => [0x9C]
  | .popf => [0x9D]
  | .unimpl9E => [0x9E]
  | .unimpl9F => [0x9F]
  | .movAlMoffs moffs => 0xA0 :: encWord moffs
  | .movAxMoffs moffs => 0xA1 :: encWord moffs
  | .movMoffsAl moffs => 0xA2 :: encWord moffs
  | .movMoffsAx moffs => 0xA3 :: encWord moffs
  | .movsb => [0xA4]
  | .movsw => [0xA5]
  | .cmpsb => [0xA6]
  | .cmpsw => [0xA7]
  | .testAlIb ib => [0xA8, ib]
  | .testAxIw iw => 0xA9 :: encWord iw
  | .stosb => [0xAA]
  | .stosw => [0xAB]
  | .lodsb => [0xAC]
  | .lodsw => [0xAD]
  | .scasb => [0xAE]
  | .scasw => [0xAF]
  | .movR8Ib r ib => [opPlus 22 r.bits, ib]
  | .movR16Iw r iw => opPlus 23 r.bits :: encWord iw
  | .unimplC0 => [0xC0]
  | .unimplC1 => [0xC1]
  | .retIw iw => 0xC2 :: encWord iw
  | .ret => [0xC3]
  | .lesR16M r m => 0xC4 :: encMem m r.bits
  | .unimplC4Mod3 reg rm => [0xC4, modRM 3 reg rm]
  | .ldsR16M r m => 0xC5 :: encMem m r.bits
  | .unimplC5Mod3 reg rm => [0xC5, modRM 3 reg rm]
  | .movRm8Ib rm ib => 0xC6 :: (encRm8 rm 0 ++ [ib])
  | .unimplC6Sub1 mod rm => [0xC6, modRM mod 1 rm]
  | .unimplC6Sub2 mod rm => [0xC6, modRM mod 2 rm]
  | .unimplC6Sub3 mod rm => [0xC6, modRM mod 3 rm]
  | .unimplC6Sub4 mod rm => [0xC6, modRM mod 4 rm]
  | .unimplC6Sub5 mod rm => [0xC6, modRM mod 5 rm]
  | .unimplC6Sub6 mod rm => [0xC6, modRM mod 6 rm]
  | .unimplC6Sub7 mod rm => [0xC6, modRM mod 7 rm]
  | .movRm16Iw rm iw => 0xC7 :: (encRm16 rm 0 ++ encWord iw)
  | .unimplC7Sub1 mod rm => [0xC7, modRM mod 1 rm]
  | .unimplC7Sub2 mod rm => [0xC7, modRM mod 2 rm]
  | .unimplC7Sub3 mod rm => [0xC7, modRM mod 3 rm]
  | .unimplC7Sub4 mod rm => [0xC7, modRM mod 4 rm]
  | .unimplC7Sub5 mod rm => [0xC7, modRM mod 5 rm]
  | .unimplC7Sub6 mod rm => [0xC7, modRM mod 6 rm]
  | .unimplC7Sub7 mod rm => [0xC7, modRM mod 7 rm]
  | .unimplC8 => [0xC8]
  | .unimplC9 => [0xC9]
  | .retfIw iw => 0xCA :: encWord iw
  | .retf => [0xCB]
  | .int3 => [0xCC]
  | .intIb ib => [0xCD, ib]
  | .unimplCE => [0xCE]
  | .iret => [0xCF]
  | .rolRm8One rm => 0xD0 :: encRm8 rm 0
  | .rorRm8One rm => 0xD0 :: encRm8 rm 1
  | .rclRm8One rm => 0xD0 :: encRm8 rm 2
  | .rcrRm8One rm => 0xD0 :: encRm8 rm 3
  | .shlRm8One rm => 0xD0 :: encRm8 rm 4
  | .shrRm8One rm => 0xD0 :: encRm8 rm 5
  | .unimplD0Sub6 mod rm => [0xD0, modRM mod 6 rm]
  | .sarRm8One rm => 0xD0 :: encRm8 rm 7
  | .rolRm16One rm => 0xD1 :: encRm16 rm 0
  | .rorRm16One rm => 0xD1 :: encRm16 rm 1
  | .rclRm16One rm => 0xD1 :: encRm16 rm 2
  | .rcrRm16One rm => 0xD1 :: encRm16 rm 3
  | .shlRm16One rm => 0xD1 :: encRm16 rm 4
  | .shrRm16One rm => 0xD1 :: encRm16 rm 5
  | .unimplD1Sub6 mod rm => [0xD1, modRM mod 6 rm]
  | .sarRm16One rm => 0xD1 :: encRm16 rm 7
  | .rolRm8Cl rm => 0xD2 :: encRm8 rm 0
  | .rorRm8Cl rm => 0xD2 :: encRm8 rm 1
  | .rclRm8Cl rm => 0xD2 :: encRm8 rm 2
  | .rcrRm8Cl rm => 0xD2 :: encRm8 rm 3
  | .shlRm8Cl rm => 0xD2 :: encRm8 rm 4
  | .shrRm8Cl rm => 0xD2 :: encRm8 rm 5
  | .unimplD2Sub6 mod rm => [0xD2, modRM mod 6 rm]
  | .sarRm8Cl rm => 0xD2 :: encRm8 rm 7
  | .rolRm16Cl rm => 0xD3 :: encRm16 rm 0
  | .rorRm16Cl rm => 0xD3 :: encRm16 rm 1
  | .rclRm16Cl rm => 0xD3 :: encRm16 rm 2
  | .rcrRm16Cl rm => 0xD3 :: encRm16 rm 3
  | .shlRm16Cl rm => 0xD3 :: encRm16 rm 4
  | .shrRm16Cl rm => 0xD3 :: encRm16 rm 5
  | .unimplD3Sub6 mod rm => [0xD3, modRM mod 6 rm]
  | .sarRm16Cl rm => 0xD3 :: encRm16 rm 7
  | .unimplD4 => [0xD4]
  | .unimplD5 => [0xD5]
  | .unimplD6 => [0xD6]
  | .unimplD7 => [0xD7]
  | .unimplD8 => [0xD8]
  | .unimplD9 => [0xD9]
  | .unimplDA => [0xDA]
  | .unimplDB => [0xDB]
  | .unimplDC => [0xDC]
  | .unimplDD => [0xDD]
  | .unimplDE => [0xDE]
  | .unimplDF => [0xDF]
  | .loopne rel => [0xE0, rel]
  | .loope rel => [0xE1, rel]
  | .loop rel => [0xE2, rel]
  | .jcxz rel => [0xE3, rel]
  | .unimplE4 => [0xE4]
  | .unimplE5 => [0xE5]
  | .unimplE6 => [0xE6]
  | .unimplE7 => [0xE7]
  | .callRel16 rel => 0xE8 :: encWord rel
  | .jmpRel16 rel => 0xE9 :: encWord rel
  | .jmpPtr off seg => 0xEA :: (encWord off ++ encWord seg)
  | .jmpRel8 rel => [0xEB, rel]
  | .unimplEC => [0xEC]
  | .unimplED => [0xED]
  | .unimplEE => [0xEE]
  | .unimplEF => [0xEF]
  | .unimplF0 => [0xF0]
  | .unimplF1 => [0xF1]
  | .prefixRepnz => [0xF2]
  | .prefixRep => [0xF3]
  | .unimplF4 => [0xF4]
  | .cmc => [0xF5]
  | .testRm8Ib rm ib => 0xF6 :: (encRm8 rm 0 ++ [ib])
  | .unimplF6Sub1 mod rm => [0xF6, modRM mod 1 rm]
  | .notRm8 rm => 0xF6 :: encRm8 rm 2
  | .unimplF6Sub3 mod rm => [0xF6, modRM mod 3 rm]
  | .mulRm8 rm => 0xF6 :: encRm8 rm 4
  | .unimplF6Sub5 mod rm => [0xF6, modRM mod 5 rm]
  | .divRm8 rm => 0xF6 :: encRm8 rm 6
  | .unimplF6Sub7 mod rm => [0xF6, modRM mod 7 rm]
  | .testRm16Iw rm iw => 0xF7 :: (encRm16 rm 0 ++ encWord iw)
  | .unimplF7Sub1 mod rm => [0xF7, modRM mod 1 rm]
  | .notRm16 rm => 0xF7 :: encRm16 rm 2
  | .unimplF7Sub3 mod rm => [0xF7, modRM mod 3 rm]
  | .mulRm16 rm => 0xF7 :: encRm16 rm 4
  | .unimplF7Sub5 mod rm => [0xF7, modRM mod 5 rm]
  | .divRm16 rm => 0xF7 :: encRm16 rm 6
  | .unimplF7Sub7 mod rm => [0xF7, modRM mod 7 rm]
  | .clc => [0xF8]
  | .stc => [0xF9]
  | .cli => [0xFA]
  | .sti => [0xFB]
  | .cld => [0xFC]
  | .std => [0xFD]
  | .incRm8 rm => 0xFE :: encRm8 rm 0
  | .decRm8 rm => 0xFE :: encRm8 rm 1
  | .unimplFESub2 mod rm => [0xFE, modRM mod 2 rm]
  | .unimplFESub3 mod rm => [0xFE, modRM mod 3 rm]
  | .unimplFESub4 mod rm => [0xFE, modRM mod 4 rm]
  | .unimplFESub5 mod rm => [0xFE, modRM mod 5 rm]
  | .unimplFESub6 mod rm => [0xFE, modRM mod 6 rm]
  | .unimplFESub7 mod rm => [0xFE, modRM mod 7 rm]
  | .incRm16 rm => 0xFF :: encRm16 rm 0
  | .decRm16 rm => 0xFF :: encRm16 rm 1
  | .callRm16 rm => 0xFF :: encRm16 rm 2
  | .callM16 m => 0xFF :: encMem m 3
  | .jmpRm16 rm => 0xFF :: encRm16 rm 4
  | .jmpM16 m => 0xFF :: encMem m 5
  | .pushRm16 rm => 0xFF :: encRm16 rm 6
  | .unimplFFSub7 mod rm => [0xFF, modRM mod 7 rm]
  | .unimplFFSub3Mod3 rm => [0xFF, modRM 3 3 rm]
  | .unimplFFSub5Mod3 rm => [0xFF, modRM 3 5 rm]

/-! ## The host's reading of the decoder -/

/-- The longest instruction without its prefixes: opcode, ModR/M, two displacement bytes, two immediate bytes (30_encoding.md R90). -/
def maxInstrBytes : Nat := 6

/-- The first `nbits` bits of a table word as bytes in stream order (bit 0 is the least significant bit of the first byte), then
zero bytes up to `n` bytes. -/
def tableBytes (nbits w : Nat) : Nat → Nat → List Byte
  | _, 0 => []
  | k, n + 1 => (if 8 * k < nbits then BitVec.ofNat 8 (w / 2 ^ (8 * k)) else 0) :: tableBytes nbits w (k + 1) n

/-- The instruction the decoder reads from a word of spec/opcode_table.json. -/
def decodeTableWord (nbits w : Nat) : Option Instr :=
  match decode (tableBytes nbits w 0 maxInstrBytes) with
  | .ok i _ => some i
  | .truncated => none

end Sys2Proof
end

