-- ==== Sys2Proof/Machine/Access.lean ====
section
/-! DEFINITION. Reading and writing registers (10_state.md R20 to R25) and memory (20_memory.md R60 to R69, R86). -/

namespace Sys2Proof.Machine

/-! ## Registers -/

/-- The word register numbered by 30_encoding.md R100. -/
def Regs.get16 (g : Regs) : Reg16 → Word
  | .ax => g.AX | .cx => g.CX | .dx => g.DX | .bx => g.BX
  | .sp => g.SP | .bp => g.BP | .si => g.SI | .di => g.DI

/-- Writing a word register (10_state.md R20, R22). -/
def Regs.set16 (g : Regs) (r : Reg16) (v : Word) : Regs :=
  match r with
  | .ax => { g with AX := v } | .cx => { g with CX := v } | .dx => { g with DX := v } | .bx => { g with BX := v }
  | .sp => { g with SP := v } | .bp => { g with BP := v } | .si => { g with SI := v } | .di => { g with DI := v }

/-- A byte view of a general register (10_state.md R21). -/
def Regs.get8 (g : Regs) : Reg8 → Byte
  | .al => loByte g.AX | .cl => loByte g.CX | .dl => loByte g.DX | .bl => loByte g.BX
  | .ah => hiByte g.AX | .ch => hiByte g.CX | .dh => hiByte g.DX | .bh => hiByte g.BX

/-- Writing a byte view; the other half keeps its value (10_state.md R21). -/
def Regs.set8 (g : Regs) (r : Reg8) (v : Byte) : Regs :=
  match r with
  | .al => { g with AX := joinBytes v (hiByte g.AX) }
  | .cl => { g with CX := joinBytes v (hiByte g.CX) }
  | .dl => { g with DX := joinBytes v (hiByte g.DX) }
  | .bl => { g with BX := joinBytes v (hiByte g.BX) }
  | .ah => { g with AX := joinBytes (loByte g.AX) v }
  | .ch => { g with CX := joinBytes (loByte g.CX) v }
  | .dh => { g with DX := joinBytes (loByte g.DX) v }
  | .bh => { g with BX := joinBytes (loByte g.BX) v }

/-- A segment register (10_state.md R24). -/
def Regs.getS (g : Regs) : SReg → Word
  | .es => g.ES | .cs => g.CS | .ss => g.SS | .ds => g.DS

/-- Writing a segment register (10_state.md R24). -/
def Regs.setS (g : Regs) (r : SReg) (v : Word) : Regs :=
  match r with
  | .es => { g with ES := v } | .cs => { g with CS := v } | .ss => { g with SS := v } | .ds => { g with DS := v }

/-! ## Memory -/

/-- What a byte that is not listed reads as: memory "is zero-initialized at power-on" (20_memory.md R61). -/
def unlistedByte : Byte := 0

/-- The byte at a physical address. -/
def Memory.read : Memory → Nat → Byte
  | [], _ => unlistedByte
  | (b, w) :: rest, a => if a < b then unlistedByte else if a = b then w else Memory.read rest a

/-- Writing the byte at a physical address, keeping the canonical form. -/
def Memory.write : Memory → Nat → Byte → Memory
  | [], a, v => if v = unlistedByte then [] else [(a, v)]
  | (b, w) :: rest, a, v =>
    if a < b then (if v = unlistedByte then (b, w) :: rest else (a, v) :: (b, w) :: rest)
    else if a = b then (if v = unlistedByte then rest else (a, v) :: rest)
    else (b, w) :: Memory.write rest a v

/-- The physical address of a logical one: `(seg << 4) + off`, modulo 2^20 (20_memory.md R62). -/
def phys (seg off : Word) : Phys := (seg.setWidth 20 <<< 4) + off.setWidth 20

/-- The byte at `p`. -/
def Memory.byteAt (m : Memory) (p : Phys) : Byte := m.read p.toNat

/-- The word at `p` and `(p + 1) mod 2^20`, low byte first (20_memory.md R64). -/
def Memory.wordAt (m : Memory) (p : Phys) : Word := joinBytes (m.byteAt p) (m.byteAt (p + 1))

/-- Writing the byte at `p`. -/
def Memory.setByteAt (m : Memory) (p : Phys) (v : Byte) : Memory := m.write p.toNat v

/-- Writing the word at `p` and `(p + 1) mod 2^20`, low byte first (20_memory.md R66). -/
def Memory.setWordAt (m : Memory) (p : Phys) (v : Word) : Memory := (m.setByteAt p (loByte v)).setByteAt (p + 1) (hiByte v)

/-- `read8` of 20_memory.md R63. -/
def Memory.read8 (m : Memory) (seg off : Word) : Byte := m.byteAt (phys seg off)

/-- `read16` of 20_memory.md R64. -/
def Memory.read16 (m : Memory) (seg off : Word) : Word := m.wordAt (phys seg off)

/-- `write8` of 20_memory.md R65. -/
def Memory.write8 (m : Memory) (seg off : Word) (v : Byte) : Memory := m.setByteAt (phys seg off) v

/-- `write16` of 20_memory.md R66. -/
def Memory.write16 (m : Memory) (seg off : Word) (v : Word) : Memory := m.setWordAt (phys seg off) v

/-- Bytes written one by one from an offset upward, each by `write8`, so that offsets wrap inside the segment. -/
def Memory.writeBytes (m : Memory) (seg off : Word) : List Byte → Memory
  | [] => m
  | b :: bs => Memory.writeBytes (m.write8 seg off b) seg (off + 1) bs

/-- Bytes written at a list of physical addresses, in order. -/
def Memory.writeAll (m : Memory) : List (Phys × Byte) → Memory
  | [] => m
  | (p, b) :: rest => Memory.writeAll (m.setByteAt p b) rest

end Sys2Proof.Machine
end

