-- ==== Sys2Proof/Machine/Layer.lean ====
section
/-! DEFINITION. The Interrupt Layer behind the port of 00_scope.md R12: a layer that conforms to 60_exceptions.md R349 and serves
what R350 to R362 list. What the outside world supplies comes in a `World`. -/

namespace Sys2Proof.Machine

/-- What the layer sees and may change (00_scope.md R12): the registers and flags `S` and the memory `M`. -/
structure View where
  regs : Regs
  flags : Flags
  mem : Memory
deriving DecidableEq, Repr

/-- The answers of the port (00_scope.md R12), and that none ever comes (60_exceptions.md R381(b)). -/
inductive Answer where
  | handled (v : View)
  | notHandled
  | terminate
  | hostIOError (msg : String)
  | never (why : Fault)
deriving DecidableEq, Repr

/-- An answer and the calls of the backends made on the way to it, in order. -/
structure Served where
  answer : Answer
  calls : List BackendCall
deriving DecidableEq, Repr

/-- The service is done and the core takes `v`. -/
def Served.done (v : View) : Served := { answer := .handled v, calls := [] }

/-- No service claims the vector and subfunction. -/
def Served.unclaimed : Served := { answer := .notHandled, calls := [] }

/-- A service that involves a backend makes `calls`; the backend may fail on the way (60_exceptions.md R349). -/
def Served.backed (w : World) (calls : List BackendCall) (v : View) : Served :=
  match w.ioError with
  | some msg => { answer := .hostIOError msg, calls := calls.take w.served }
  | none => { answer := .handled v, calls := calls }

/-- Writing a byte register of the view. -/
def View.set8 (v : View) (r : Reg8) (b : Byte) : View := { v with regs := v.regs.set8 r b }

/-- Writing a word register of the view. -/
def View.set16 (v : View) (r : Reg16) (x : Word) : View := { v with regs := v.regs.set16 r x }

/-- Writing CF of the view. -/
def View.setCF (v : View) (b : Bool) : View := { v with flags := { v.flags with CF := b } }

/-- Writing ZF of the view. -/
def View.setZF (v : View) (b : Bool) : View := { v with flags := { v.flags with ZF := b } }

/-- A video service may write inside the text buffer (60_exceptions.md R349). -/
def View.textBuffer (v : View) (w : World) : View :=
  { v with mem := v.mem.writeAll (w.textWrites.map fun x => (BitVec.ofNat 20 (Config.textBase + x.1 % Config.textSize), x.2)) }

/-- `n` bytes of data, those the world lists and free ones after them; `draw` is the number of the dispatch's draw. -/
def dataBytes (w : World) (draw n : Nat) : List Byte :=
  (List.range n).map fun i => w.data.getD i (Config.freeByte draw i)

/-- The bytes of a string from `seg:off` upward, up to and without its terminator, if it has one within the segment
(60_exceptions.md R360, R361). -/
def stringBytes (m : Memory) (seg : Word) (stop : Byte) : Nat → Word → Option (List Byte)
  | 0, _ => none
  | n + 1, off =>
    if m.read8 seg off = stop then some []
    else (stringBytes m seg stop n (off + 1)).map fun bs => m.read8 seg off :: bs

/-- The first `n` bytes from `seg:off` upward, with offsets that wrap in the segment. -/
def leadingBytes (m : Memory) (seg off : Word) (n : Nat) : List Byte :=
  (List.range n).map fun i => m.read8 seg (off + BitVec.ofNat 16 i)

/-- A string has at most this many places for its terminator: the offsets of a segment. -/
def segmentBytes : Nat := 65536

/-- An error code that is not zero (60_exceptions.md R357: "a non-zero error code"). -/
def nonZero (b : Byte) : Byte := if b = 0 then 1 else b

/-! ## BIOS services -/

/-- `INT 10h` (60_exceptions.md R351 to R356). -/
def serveVideo (w : World) (v : View) : Served :=
  let g := v.regs
  match (g.get8 .ah).toNat with
  | 0x00 => .backed w [.setMode (g.get8 .al)] (v.textBuffer w)
  | 0x02 => .backed w [.moveCursor (g.get8 .dh) (g.get8 .dl)] (v.textBuffer w)
  | 0x03 => .backed w [.readCursor] ((((v.textBuffer w).set8 .dh w.row).set8 .dl w.column).set16 .cx 0)
  | 0x06 => .backed w [.scroll (g.get8 .al) (g.get8 .bh)] (v.textBuffer w)
  | 0x09 => .backed w [.writeChar 0x09 (g.get8 .al) (g.get8 .bh) (g.get8 .bl) g.CX] (v.textBuffer w)
  | 0x0A => .backed w [.writeChar 0x0A (g.get8 .al) (g.get8 .bh) (g.get8 .bl) g.CX] (v.textBuffer w)
  | 0x0E => .backed w [.ttyWrite (g.get8 .al)] (v.textBuffer w)
  | _ => .unclaimed

/-- `INT 13h` (60_exceptions.md R357): on success 512 bytes a sector from `ES:BX` upward, CF and AH zero; on failure CF set, a
non-zero AH, and anything inside the same bytes of memory (93_implementation_defined.md U6). -/
def serveDisk (w : World) (draw : Nat) (v : View) : Served :=
  let g := v.regs
  match (g.get8 .ah).toNat with
  | 0x02 =>
    let size := (g.get8 .al).toNat * 512
    let calls := [.readSectors (g.get8 .al) (g.get8 .ch) (g.get8 .cl) (g.get8 .dh) (g.get8 .dl)]
    if w.success then
      .backed w calls ((({ v with mem := v.mem.writeBytes g.ES g.BX (dataBytes w draw size) }).set8 .ah 0).setCF false)
    else
      .backed w calls
        ((({ v with mem := v.mem.writeBytes g.ES g.BX (w.data.take size) }).set8 .ah (nonZero (loByte w.errorCode))).setCF true)
  | _ => .unclaimed

/-- `INT 16h` (60_exceptions.md R358): a blocking read waits for ever when no key comes; a peek leaves the key where it is. -/
def serveKeyboard (w : World) (v : View) : Served :=
  match (v.regs.get8 .ah).toNat with
  | 0x00 =>
    if w.ioError.isNone && !w.keyComes then { answer := .never .keyboardNeverAnswers, calls := [.readKey] }
    else .backed w [.readKey] ((v.set8 .ah w.scancode).set8 .al w.ascii)
  | 0x01 =>
    .backed w [.peekKey]
      (if w.keyWaiting then ((v.set8 .ah w.scancode).set8 .al w.ascii).setZF false else v.setZF true)
  | _ => .unclaimed

/-- `INT 1Ah` (60_exceptions.md R359). -/
def serveTime (w : World) (v : View) : Served :=
  match (v.regs.get8 .ah).toNat with
  | 0x00 => .done ((v.set16 .cx (w.ticks.extractLsb' 16 16)).set16 .dx (w.ticks.extractLsb' 0 16))
  | _ => .unclaimed

/-- `BIOS(v, S, M, choice)` of 60_exceptions.md R350. -/
def serveBios (vector : Byte) (w : World) (draw : Nat) (v : View) : Served :=
  match vector.toNat with
  | 0x10 => serveVideo w v
  | 0x13 => serveDisk w draw v
  | 0x16 => serveKeyboard w v
  | 0x1A => serveTime w v
  | _ => .unclaimed

/-! ## MS-DOS services -/

/-- A service that reads a string first: unterminated, it ends in `HostIOError` or never (93_implementation_defined.md U11). DESIGN
CHOICE: in the first case the backend calls `sent` have been made while the string was read (log entry 12). -/
def withString (w : World) (sent : List BackendCall) (str : Option (List Byte)) (k : List Byte → Served) : Served :=
  match str, w.ioError with
  | some bs, _ => k bs
  | none, some msg => { answer := .hostIOError msg, calls := sent }
  | none, none => { answer := .never .stringNeverEnds, calls := [] }

/-- `INT 21h` (60_exceptions.md R360 to R362). DESIGN CHOICE: R361 names no register for the file handle of `AH=42`; the backend call
carries BX, as for `AH=3F` (log entry 29). DESIGN CHOICE: of a string without its terminator `AH=09` has sent as many characters as the
world's answer counts when it ends in `HostIOError`, and `AH=3D` has made no call (91_not_in_source.md N7, log entry 12). -/
def serveDos21 (w : World) (v : View) : Served :=
  let g := v.regs
  match (g.get8 .ah).toNat with
  | 0x02 => .backed w [.ttyWrite (g.get8 .dl)] v
  | 0x09 =>
    withString w ((leadingBytes v.mem g.DS g.DX w.served).map .ttyWrite) (stringBytes v.mem g.DS 0x24 segmentBytes g.DX) fun bs =>
      .backed w (bs.map .ttyWrite) v
  | 0x19 => .done (v.set8 .al 0)
  | 0x30 => .done ((v.set8 .al 5).set8 .ah 0)
  | 0x3D =>
    withString w [] (stringBytes v.mem g.DS 0 segmentBytes g.DX) fun bs =>
      .backed w [.openFile bs (g.get8 .al)]
        (if w.success then (v.set16 .ax w.handle).setCF false else (v.set16 .ax w.errorCode).setCF true)
  | 0x3F =>
    let bs := w.data.take g.CX.toNat
    .backed w [.readFile g.BX g.CX]
      ((({ v with mem := v.mem.writeBytes g.DS g.DX bs }).set16 .ax (BitVec.ofNat 16 bs.length)).setCF w.carry)
  | 0x42 =>
    .backed w [.seekFile g.BX (g.get8 .al) (g.CX ++ g.DX)]
      ((v.set16 .dx (w.position.extractLsb' 16 16)).set16 .ax (w.position.extractLsb' 0 16))
  | 0x4C => { answer := .terminate, calls := [] }
  | _ => .unclaimed

/-- `MSDOS(v, S, M, choice)` of 60_exceptions.md R350. -/
def serveDos (vector : Byte) (w : World) (v : View) : Served :=
  match vector.toNat with
  | 0x21 => serveDos21 w v
  | _ => .unclaimed

/-! ## The port -/

/-- `IntLayer` of 60_exceptions.md R350: BIOS first, then MS-DOS when it is enabled. -/
def conformingLayer (vector : Byte) (msdos : Bool) (w : World) (draw : Nat) (v : View) : Served :=
  let r := serveBios vector w draw v
  match r.answer with
  | .notHandled => if msdos then serveDos vector w v else r
  | _ => r

/-- The answer of a layer that need not conform (93_implementation_defined.md U20). -/
def Claim.served (c : Claim) (v : View) : Served :=
  match c with
  | .handled regs flags writes => .done { regs := regs, flags := flags, mem := v.mem.writeAll writes }
  | .notHandled => .unclaimed
  | .terminate => { answer := .terminate, calls := [] }
  | .hostIOError msg => { answer := .hostIOError msg, calls := [] }
  | .neverAnswers => { answer := .never .layerNeverAnswers, calls := [] }

/-- `IntLayer(vector, S, M, MSDOS_ENABLED, choice)` of 00_scope.md R12. -/
def intLayer (vector : Byte) (msdos : Bool) (c : Choice) (draw : Nat) (v : View) : Served :=
  match c with
  | .conforming w => conformingLayer vector msdos w draw v
  | .claims a => a.served v

end Sys2Proof.Machine
end

