-- ==== Sys2Proof/Machine/Ops.lean ====
section
/-! DEFINITION. The named operations over the state: registers, memory, the stack (20_memory.md R70, R71), the run state
(60_exceptions.md R372 to R376), the fatal path (R332), the interrupt dispatch (R340) and the return from it
(46_interrupt_instr.md R313), and fetching an instruction (20_memory.md R68). -/

namespace Sys2Proof.Machine

/-! ## Registers and flags of the state -/

/-- A byte register. -/
def State.reg8 (s : State) (r : Reg8) : Byte := s.regs.get8 r

/-- A word register. -/
def State.reg16 (s : State) (r : Reg16) : Word := s.regs.get16 r

/-- A segment register. -/
def State.sreg (s : State) (r : SReg) : Word := s.regs.getS r

/-- Writing a byte register. -/
def State.setReg8 (s : State) (r : Reg8) (v : Byte) : State := { s with regs := s.regs.set8 r v }

/-- Writing a word register. -/
def State.setReg16 (s : State) (r : Reg16) (v : Word) : State := { s with regs := s.regs.set16 r v }

/-- Writing a segment register. -/
def State.setSReg (s : State) (r : SReg) (v : Word) : State := { s with regs := s.regs.setS r v }

/-- `pc <- off`: IP only (00_scope.md R16). -/
def State.setIP (s : State) (v : Word) : State := { s with regs := { s.regs with IP := v } }

/-- `pc <- seg:off` (00_scope.md R16). -/
def State.setCSIP (s : State) (seg off : Word) : State := { s with regs := { s.regs with CS := seg, IP := off } }

/-- Replacing the flags. -/
def State.setFlags (s : State) (f : Flags) : State := { s with flags := f }

/-! ## The stack -/

/-- Writing a word of memory (20_memory.md R66). -/
def State.write16 (s : State) (seg off v : Word) : State := { s with mem := s.mem.write16 seg off v }

/-- Writing a byte of memory (20_memory.md R65). -/
def State.write8 (s : State) (seg off : Word) (v : Byte) : State := { s with mem := s.mem.write8 seg off v }

/-- `Push16(v)` of 20_memory.md R70: SP goes down by 2, then the word is written at `SS:SP`. -/
def State.push16 (s : State) (v : Word) : State :=
  let sp := s.regs.SP - 2
  (s.setReg16 .sp sp).write16 s.regs.SS sp v

/-- The word `Pop16()` reads (20_memory.md R71). -/
def State.top16 (s : State) : Word := s.mem.read16 s.regs.SS s.regs.SP

/-- The state `Pop16()` leaves (20_memory.md R71): SP goes up by 2. -/
def State.dropTop (s : State) : State := s.setReg16 .sp (s.regs.SP + 2)

/-! ## The run state -/

/-- Adding to what the host sees. -/
def State.log (s : State) (e : HostEvent) : State := { s with host_log := e :: s.host_log }

/-- A change of the run state, and the callbacks it fires (60_exceptions.md R374, R376). -/
def State.enter (s : State) (r : RunState) : State := ({ s with run_state := r } : State).log (.stateChanged s.callbacks r)

/-- The end of a run (60_exceptions.md R375): Stopped, nothing requested, no instruction in flight and no repetition loop left to
resume. -/
def State.endRun (s : State) : State :=
  ({ s with requested_state := .stopped, pending := none, cur := InFlight.empty } : State).enter .stopped

/-! ## The fatal path -/

/-- `raise e` of 60_exceptions.md R332. `start` is the state the instruction's meaning began with, `now` the state it had come
to: registers, flags and memory go back, CS:IP to `LAST_CS:LAST_IP`; the run ends and the host gets the message. -/
def State.raise (start now : State) (e : FatalError) : State :=
  ({ now with
      regs := { start.regs with CS := start.LAST_CS, IP := start.LAST_IP }
      flags := start.flags
      mem := start.mem } : State).endRun.log (.fatal e)

/-! ## The interrupt dispatch -/

/-- The state the Interrupt Layer is called in (60_exceptions.md R340): FLAGS, CS, IP pushed in this order, IF and TF cleared. -/
def State.enterInterrupt (s : State) : State :=
  let t := ((s.push16 s.flags.pack).push16 s.regs.CS).push16 s.regs.IP
  t.setFlags { t.flags with IF := false, TF := false }

/-- The outside's answer to this dispatch: the next one State holds, or a free answer of a conforming layer. -/
def State.nextChoice (s : State) : Choice :=
  match s.choices with
  | c :: _ => c
  | [] => .conforming (Config.freeWorld s.draws)

/-- The answer is used up. -/
def State.dropChoice (s : State) : State := { s with choices := s.choices.tail, draws := s.draws + 1 }

/-- Backend calls go to the host, in order (60_exceptions.md R332: they are not undone). -/
def State.logCalls (s : State) : List BackendCall → State
  | [] => s
  | c :: cs => (s.log (.backend c)).logCalls cs

/-- `IRET` (46_interrupt_instr.md R313): pops IP, CS and FLAGS, all nine flags. -/
def State.iret (s : State) : State :=
  let ip := s.top16
  let s1 := s.dropTop
  let cs := s1.top16
  let s2 := s1.dropTop
  let f := s2.top16
  (s2.dropTop.setCSIP cs ip).setFlags (Flags.unpack f)

/-- After `Handled` (60_exceptions.md R341), by the parameter `INT_UNWIND`. -/
def State.unwind (u : IntUnwind) (s : State) : State :=
  match u with
  | .none => s
  | .discard =>
    let f := Flags.unpack (s.mem.read16 s.regs.SS (s.regs.SP + 4))
    (s.setReg16 .sp (s.regs.SP + 6)).setFlags { s.flags with IF := f.IF, TF := f.TF }
  | .iret => s.iret

/-- What the layer sees of a state. -/
def State.view (s : State) : View := { regs := s.regs, flags := s.flags, mem := s.mem }

/-- `S', M'` committed (60_exceptions.md R340). -/
def State.commit (s : State) (v : View) : State := { s with regs := v.regs, flags := v.flags, mem := v.mem }

/-- `Interrupt(v)`, the dispatch of 60_exceptions.md R340: the pushes, the call of the layer, and its four answers. An answer that
never comes is a stuck state (R381(b)). -/
def State.interrupt (s : State) (vector : Byte) : Result :=
  let entered := s.enterInterrupt
  let served := intLayer vector s.MSDOS_ENABLED s.nextChoice s.draws entered.view
  let after := (entered.dropChoice).logCalls served.calls
  match served.answer with
  | .handled v => .next ((after.commit v).unwind Config.intUnwind)
  | .notHandled => .next (State.raise s after (.unhandledInterrupt vector (s.reg8 .ah)))
  | .terminate => .next after.endRun
  | .hostIOError msg => .next (State.raise s after (.hostIOError msg))
  | .never why => .fault why

/-! ## Fetching -/

/-- `Fetch8(k)` of 20_memory.md R68: offsets wrap inside CS. -/
def State.fetch8 (s : State) (k : Nat) : Byte := s.mem.read8 s.regs.CS (s.regs.IP + BitVec.ofNat 16 k)

/-- The bytes from distance `k` on, as many as the longest instruction has. -/
def State.window (s : State) (k : Nat) : List Byte := (List.range maxInstrBytes).map fun j => s.fetch8 (k + j)

/-- A decoded instruction (30_encoding.md R110): its prefixes in order, the instruction proper, and all its bytes. -/
structure Fetched where
  prefixes : List Instr
  instr : Instr
  bytes : List Byte
deriving DecidableEq, Repr

/-- Prefix bytes are taken until an opcode comes (30_encoding.md R93); `fuel` bounds how many are looked at. -/
def State.fetchFrom (s : State) : Nat → Nat → Option Fetched
  | 0, _ => none
  | fuel + 1, k =>
    match decode (s.window k) with
    | .truncated => none
    | .ok i rest =>
      if i.isPrefix then
        (s.fetchFrom fuel (k + 1)).map fun f =>
          { f with prefixes := i :: f.prefixes, bytes := s.fetch8 k :: f.bytes }
      else some { prefixes := [], instr := i, bytes := (s.window k).take (maxInstrBytes - rest.length) }

/-- The instruction at CS:IP, or none when the whole segment holds prefix bytes only: after 65536 of them the fetch has come
round (70_reset_and_hazards.md R405). -/
def State.fetch (s : State) : Option Fetched := s.fetchFrom segmentBytes 0

end Sys2Proof.Machine
end

