-- ==== Sys2Proof/Machine/Operands.lean ====
section
/-! DEFINITION. The Parameter Resolver: effective addresses (30_encoding.md R106), segments (R107), and reading and writing resolved
operands (R111 to R113). -/

namespace Sys2Proof.Machine

/-! ## Effective addresses -/

/-- The sum of the registers a base expression names (30_encoding.md R96, R106). -/
def State.baseValue (s : State) : Base → Word
  | .bxSi => s.regs.BX + s.regs.SI
  | .bxDi => s.regs.BX + s.regs.DI
  | .bpSi => s.regs.BP + s.regs.SI
  | .bpDi => s.regs.BP + s.regs.DI
  | .si => s.regs.SI
  | .di => s.regs.DI
  | .bp => s.regs.BP
  | .bx => s.regs.BX

/-- The value a displacement adds: a byte is signed (30_encoding.md R106). -/
def Disp.value : Disp → Word
  | .none => 0
  | .d8 d => d.signExtend 16
  | .d16 d => d

/-- The effective address of a memory operand, modulo 2^16 (30_encoding.md R106). -/
def State.ea (s : State) : MemOp → Word
  | .based b d => s.baseValue b + Disp.value d
  | .direct a => a

/-- The segment a memory operand has without a prefix: SS when its base contains BP, else DS (30_encoding.md R107). -/
def defaultSeg : MemOp → SReg
  | .based .bpSi _ | .based .bpDi _ | .based .bp _ => .ss
  | .based _ _ => .ds
  | .direct _ => .ds

/-- The segment prefix if there is one, else the default (30_encoding.md R107). -/
def State.segOr (s : State) (dflt : SReg) : Word := s.sreg (s.cur.seg.getD dflt)

/-- The segment value of a memory operand (30_encoding.md R107). -/
def State.memSeg (s : State) (m : MemOp) : Word := s.segOr (defaultSeg m)

/-- The physical address of a memory operand. -/
def State.memPhys (s : State) (m : MemOp) : Phys := phys (s.memSeg m) (s.ea m)

/-- The far pointer at a memory operand: offset at EA, selector at EA + 2 modulo 2^16 (20_memory.md R86). -/
def State.farPointer (s : State) (m : MemOp) : Word × Word :=
  (s.mem.read16 (s.memSeg m) (s.ea m), s.mem.read16 (s.memSeg m) (s.ea m + 2))

/-! ## Resolved operands (30_encoding.md R111): computed once per instruction, before any register is written (R113) -/

/-- Where a byte operand lies: `ByteReg(id)` or `MemByte(phys)`. -/
inductive Loc8 where
  | reg (r : Reg8)
  | mem (p : Phys)
deriving DecidableEq, Repr

/-- Where a word operand lies: `WordReg(id)` or `MemWord(phys)`. -/
inductive Loc16 where
  | reg (r : Reg16)
  | mem (p : Phys)
deriving DecidableEq, Repr

/-- Resolving an `r/m8`. -/
def State.loc8 (s : State) : Rm8 → Loc8
  | .reg r => .reg r
  | .mem m => .mem (s.memPhys m)

/-- Resolving an `r/m16`. -/
def State.loc16 (s : State) : Rm16 → Loc16
  | .reg r => .reg r
  | .mem m => .mem (s.memPhys m)

/-- `Read(p)` of a byte operand (30_encoding.md R112). -/
def State.get8 (s : State) : Loc8 → Byte
  | .reg r => s.reg8 r
  | .mem p => s.mem.byteAt p

/-- `Read(p)` of a word operand (30_encoding.md R112). -/
def State.get16 (s : State) : Loc16 → Word
  | .reg r => s.reg16 r
  | .mem p => s.mem.wordAt p

/-- `Write(p, v)` of a byte operand (30_encoding.md R113). -/
def State.put8 (s : State) (l : Loc8) (v : Byte) : State :=
  match l with
  | .reg r => s.setReg8 r v
  | .mem p => { s with mem := s.mem.setByteAt p v }

/-- `Write(p, v)` of a word operand (30_encoding.md R113). -/
def State.put16 (s : State) (l : Loc16) (v : Word) : State :=
  match l with
  | .reg r => s.setReg16 r v
  | .mem p => { s with mem := s.mem.setWordAt p v }

/-- The value of an `r/m8`. -/
def State.rm8 (s : State) (rm : Rm8) : Byte := s.get8 (s.loc8 rm)

/-- The value of an `r/m16`. -/
def State.rm16 (s : State) (rm : Rm16) : Word := s.get16 (s.loc16 rm)

/-! ## The shapes of the instructions: where the operands come from and where the result goes -/

/-- The destination is an `r/m8`: it is read, `f` gives the result and the flags, the result is written back. -/
def State.modify8 (s : State) (rm : Rm8) (f : Byte → State → Byte × State) : State :=
  let out := f (s.rm8 rm) s
  out.2.put8 (s.loc8 rm) out.1

/-- The destination is an `r/m16`: it is read, `f` gives the result and the flags, the result is written back. -/
def State.modify16 (s : State) (rm : Rm16) (f : Word → State → Word × State) : State :=
  let out := f (s.rm16 rm) s
  out.2.put16 (s.loc16 rm) out.1

end Sys2Proof.Machine
end

