-- ==== Sys2Proof/Machine/Control.lean ====
section
/-! DEFINITION. Jumps, calls, returns and loops (45_control_flow.md R270 to R304). -/

namespace Sys2Proof.Machine

/-- A relative target: the advanced IP plus a signed byte, modulo 2^16 (30_encoding.md R103). -/
def State.target8 (s : State) (rel : Byte) : Word := s.regs.IP + rel.signExtend 16

/-- A conditional short jump (45_control_flow.md R276). -/
def State.jumpIf (s : State) (taken : Bool) (rel : Byte) : State := if taken then s.setIP (s.target8 rel) else s

/-- A near call: the return address is pushed, then IP is replaced (45_control_flow.md R281, R283). -/
def State.callNear (s : State) (target : Word) : State := (s.push16 s.regs.IP).setIP target

/-- A far call: CS is pushed, then IP (45_control_flow.md R282, R284). -/
def State.callFar (s : State) (seg off : Word) : State := ((s.push16 s.regs.CS).push16 s.regs.IP).setCSIP seg off

/-- `RET` (45_control_flow.md R285). -/
def State.retNear (s : State) : State := s.dropTop.setIP s.top16

/-- `RETF` (45_control_flow.md R287): IP first, then CS. -/
def State.retFar (s : State) : State := s.dropTop.dropTop.setCSIP s.dropTop.top16 s.top16

/-- `SP <- SP + iw` after the pops (45_control_flow.md R286, R288). -/
def State.release (s : State) (iw : Word) : State := s.setReg16 .sp (s.regs.SP + iw)

/-- `LOOP*` (45_control_flow.md R278 to R280): CX goes down by one, and the jump is taken when it is not zero and `also` holds. -/
def State.loopIf (s : State) (also : Bool) (rel : Byte) : State :=
  let t := s.setReg16 .cx (s.regs.CX - 1)
  t.jumpIf (decide (t.regs.CX ≠ 0) && also) rel

/-! ## The instructions -/

/-- `JMP rel8` (R271). -/
def execJmpRel8 (rel : Byte) (s : State) : Result := .next (s.setIP (s.target8 rel))

/-- `JMP rel16` (R272). -/
def execJmpRel16 (rel : Word) (s : State) : Result := .next (s.setIP (s.regs.IP + rel))

/-- `JMP ptr16:16` (R273). -/
def execJmpPtr (off : Word) (seg : Word) (s : State) : Result := .next (s.setCSIP seg off)

/-- `JMP r/m16` (R274). -/
def execJmpRm16 (rm : Rm16) (s : State) : Result := .next (s.setIP (s.rm16 rm))

/-- `JMP m16:16` (R275). -/
def execJmpM16 (m : MemOp) (s : State) : Result := .next (s.setCSIP (s.farPointer m).2 (s.farPointer m).1)

/-- `JO rel8` (R289, R276). -/
def execJo (rel : Byte) (s : State) : Result := .next (s.jumpIf (s.flags.OF) rel)

/-- `JNO rel8` (R290, R276). -/
def execJno (rel : Byte) (s : State) : Result := .next (s.jumpIf (!s.flags.OF) rel)

/-- `JB rel8` (R291, R276). -/
def execJb (rel : Byte) (s : State) : Result := .next (s.jumpIf (s.flags.CF) rel)

/-- `JNB rel8` (R292, R276). -/
def execJnb (rel : Byte) (s : State) : Result := .next (s.jumpIf (!s.flags.CF) rel)

/-- `JZ rel8` (R293, R276). -/
def execJz (rel : Byte) (s : State) : Result := .next (s.jumpIf (s.flags.ZF) rel)

/-- `JNZ rel8` (R294, R276). -/
def execJnz (rel : Byte) (s : State) : Result := .next (s.jumpIf (!s.flags.ZF) rel)

/-- `JBE rel8` (R295, R276). -/
def execJbe (rel : Byte) (s : State) : Result := .next (s.jumpIf (s.flags.CF || s.flags.ZF) rel)

/-- `JA rel8` (R296, R276). -/
def execJa (rel : Byte) (s : State) : Result := .next (s.jumpIf (!(s.flags.CF || s.flags.ZF)) rel)

/-- `JS rel8` (R297, R276). -/
def execJs (rel : Byte) (s : State) : Result := .next (s.jumpIf (s.flags.SF) rel)

/-- `JNS rel8` (R298, R276). -/
def execJns (rel : Byte) (s : State) : Result := .next (s.jumpIf (!s.flags.SF) rel)

/-- `JPE rel8` (R299, R276). -/
def execJpe (rel : Byte) (s : State) : Result := .next (s.jumpIf (s.flags.PF) rel)

/-- `JPO rel8` (R300, R276). -/
def execJpo (rel : Byte) (s : State) : Result := .next (s.jumpIf (!s.flags.PF) rel)

/-- `JL rel8` (R301, R276). -/
def execJl (rel : Byte) (s : State) : Result := .next (s.jumpIf (s.flags.SF != s.flags.OF) rel)

/-- `JGE rel8` (R302, R276). -/
def execJge (rel : Byte) (s : State) : Result := .next (s.jumpIf (s.flags.SF == s.flags.OF) rel)

/-- `JLE rel8` (R303, R276). -/
def execJle (rel : Byte) (s : State) : Result := .next (s.jumpIf ((s.flags.SF != s.flags.OF) || s.flags.ZF) rel)

/-- `JG rel8` (R304, R276). -/
def execJg (rel : Byte) (s : State) : Result := .next (s.jumpIf (!((s.flags.SF != s.flags.OF) || s.flags.ZF)) rel)

/-- `JCXZ rel8` (R277). -/
def execJcxz (rel : Byte) (s : State) : Result := .next (s.jumpIf (decide (s.regs.CX = 0)) rel)

/-- `LOOP rel8` (R278). -/
def execLoop (rel : Byte) (s : State) : Result := .next (s.loopIf true rel)

/-- `LOOPE rel8` (R279). -/
def execLoope (rel : Byte) (s : State) : Result := .next (s.loopIf s.flags.ZF rel)

/-- `LOOPNE rel8` (R280). -/
def execLoopne (rel : Byte) (s : State) : Result := .next (s.loopIf (!s.flags.ZF) rel)

/-- `CALL rel16` (R281). -/
def execCallRel16 (rel : Word) (s : State) : Result := .next (s.callNear (s.regs.IP + rel))

/-- `CALL ptr16:16` (R282). -/
def execCallPtr (off : Word) (seg : Word) (s : State) : Result := .next (s.callFar seg off)

/-- `CALL r/m16` (R283). -/
def execCallRm16 (rm : Rm16) (s : State) : Result := .next (s.callNear (s.rm16 rm))

/-- `CALL m16:16` (R284). -/
def execCallM16 (m : MemOp) (s : State) : Result := .next (s.callFar (s.farPointer m).2 (s.farPointer m).1)

/-- `RET` (R285). -/
def execRet (s : State) : Result := .next s.retNear

/-- `RET iw` (R286). -/
def execRetIw (iw : Word) (s : State) : Result := .next (s.retNear.release iw)

/-- `RETF` (R287). -/
def execRetf (s : State) : Result := .next s.retFar

/-- `RETF iw` (R288). -/
def execRetfIw (iw : Word) (s : State) : Result := .next (s.retFar.release iw)

end Sys2Proof.Machine
end

