-- ==== Sys2Proof/Machine/FlagControl.lean ====
section
/-! DEFINITION. CLC STC CMC CLD STD CLI STI (47_flag_control.md R320 to R326). -/

namespace Sys2Proof.Machine

/-- `CLC` (R320). -/
def execClc (s : State) : Result := .next (s.setFlags { s.flags with CF := false })

/-- `STC` (R321). -/
def execStc (s : State) : Result := .next (s.setFlags { s.flags with CF := true })

/-- `CMC` (R322). -/
def execCmc (s : State) : Result := .next (s.setFlags { s.flags with CF := !s.flags.CF })

/-- `CLD` (R323). -/
def execCld (s : State) : Result := .next (s.setFlags { s.flags with DF := false })

/-- `STD` (R324). -/
def execStd (s : State) : Result := .next (s.setFlags { s.flags with DF := true })

/-- `CLI` (R325). -/
def execCli (s : State) : Result := .next (s.setFlags { s.flags with IF := false })

/-- `STI` (R326). -/
def execSti (s : State) : Result := .next (s.setFlags { s.flags with IF := true })

end Sys2Proof.Machine
end

