-- ==== Sys2Proof/Machine/Interrupts.lean ====
section
/-! DEFINITION. INT ib, INT3 and IRET (46_interrupt_instr.md R310 to R313). -/

namespace Sys2Proof.Machine

/-- `INT ib` (R311). -/
def execIntIb (ib : Byte) (s : State) : Result := s.interrupt ib

/-- `INT3` (R312). -/
def execInt3 (s : State) : Result := s.interrupt 3

/-- `IRET` (R313). -/
def execIret (s : State) : Result := .next s.iret

end Sys2Proof.Machine
end

