-- ==== Sys2Proof/Machine/Arith.lean ====
section
/-! DEFINITION. ADD ADC SUB SBB CMP INC DEC MUL DIV (40_arithmetic.md R140 to R151). -/

namespace Sys2Proof.Machine

/-! ## The two-operand operations: from the operands to the result, and the flags (40_arithmetic.md R141) -/

/-- ADD (40_arithmetic.md R142). -/
def addAlu {n : Nat} (a b : BitVec n) (s : State) : BitVec n × State :=
  let x := addOp a b false
  (x.r, s.setFlags (s.flags.setArith x))

/-- ADC (40_arithmetic.md R143): CF is read before it is written. -/
def adcAlu {n : Nat} (a b : BitVec n) (s : State) : BitVec n × State :=
  let x := addOp a b s.flags.CF
  (x.r, s.setFlags (s.flags.setArith x))

/-- SUB, CMP, CMPS and SCAS (40_arithmetic.md R144, R146; 43_string.md R212, R215). -/
def subAlu {n : Nat} (a b : BitVec n) (s : State) : BitVec n × State :=
  let x := subOp a b false
  (x.r, s.setFlags (s.flags.setArith x))

/-- SBB (40_arithmetic.md R145): CF is read before it is written. -/
def sbbAlu {n : Nat} (a b : BitVec n) (s : State) : BitVec n × State :=
  let x := subOp a b s.flags.CF
  (x.r, s.setFlags (s.flags.setArith x))

/-- INC (40_arithmetic.md R147): CF keeps its value. -/
def incAlu {n : Nat} (a : BitVec n) (s : State) : BitVec n × State :=
  let x := addOp a 1 false
  (x.r, s.setFlags (s.flags.setIncDec x))

/-- DEC (40_arithmetic.md R148): CF keeps its value. -/
def decAlu {n : Nat} (a : BitVec n) (s : State) : BitVec n × State :=
  let x := subOp a 1 false
  (x.r, s.setFlags (s.flags.setIncDec x))

/-! ## The forms of 40_arithmetic.md R140 -/

/-- `op r/m8, b`: the result goes to the `r/m8`. -/
def intoRm8 (op : Byte → Byte → State → Byte × State) (rm : Rm8) (b : Byte) (s : State) : State :=
  s.modify8 rm fun a t => op a b t

/-- `op r/m16, b`: the result goes to the `r/m16`. -/
def intoRm16 (op : Word → Word → State → Word × State) (rm : Rm16) (b : Word) (s : State) : State :=
  s.modify16 rm fun a t => op a b t

/-- The 83 form's immediate (30_encoding.md R99). -/
def sext (ib : Byte) : Word := ib.signExtend 16

/-! ## MUL and DIV -/

/-- The undefined flags of MUL: SF ZF AF PF (40_arithmetic.md R149). -/
def State.undefAfterMul (s : State) : State := s.undefSF.undefZF.undefAF.undefPF

/-- The undefined flags of DIV: all six (40_arithmetic.md R150). -/
def State.undefAfterDiv (s : State) : State := s.undefOF.undefSF.undefZF.undefAF.undefPF.undefCF

/-- Byte multiply: `AX <- AL * b`, CF and OF tell whether the high half is not zero (40_arithmetic.md R149). -/
def State.mul8 (s : State) (b : Byte) : State :=
  let p : Word := BitVec.ofNat 16 ((s.reg8 .al).toNat * b.toNat)
  let big := decide (hiByte p ≠ 0)
  ((s.setReg16 .ax p).setFlags { s.flags with CF := big, OF := big }).undefAfterMul

/-- Word multiply: `DX:AX <- AX * b`, CF and OF tell whether the high half is not zero (40_arithmetic.md R149). -/
def State.mul16 (s : State) (b : Word) : State :=
  let p : BitVec 32 := BitVec.ofNat 32 (s.regs.AX.toNat * b.toNat)
  let high : Word := p.extractLsb' 16 16
  let big := decide (high ≠ 0)
  (((s.setReg16 .ax (p.extractLsb' 0 16)).setReg16 .dx high).setFlags { s.flags with CF := big, OF := big }).undefAfterMul

/-- Byte divide of AX by `d`: AL the quotient, AH the remainder; a zero divisor or a quotient above 0xFF dispatches interrupt 0
before anything is written (40_arithmetic.md R150, 60_exceptions.md R342). -/
def State.div8 (s : State) (d : Byte) : Result :=
  let n := s.regs.AX.toNat
  if d.toNat = 0 ∨ 0xFF < n / d.toNat then s.interrupt 0
  else .next ((s.setReg8 .al (BitVec.ofNat 8 (n / d.toNat))).setReg8 .ah (BitVec.ofNat 8 (n % d.toNat))).undefAfterDiv

/-- Word divide of DX:AX by `d`: AX the quotient, DX the remainder; a zero divisor or a quotient above 0xFFFF dispatches interrupt 0
before anything is written (40_arithmetic.md R150, 60_exceptions.md R342). -/
def State.div16 (s : State) (d : Word) : Result :=
  let n := s.regs.DX.toNat * 2 ^ 16 + s.regs.AX.toNat
  if d.toNat = 0 ∨ 0xFFFF < n / d.toNat then s.interrupt 0
  else .next ((s.setReg16 .ax (BitVec.ofNat 16 (n / d.toNat))).setReg16 .dx (BitVec.ofNat 16 (n % d.toNat))).undefAfterDiv

/-! ## The instructions -/

/-- `ADD r/m8, r8` (R142). -/
def execAddRm8R8 (rm : Rm8) (r : Reg8) (s : State) : Result := .next (intoRm8 addAlu rm (s.reg8 r) s)

/-- `ADD r/m16, r16` (R142). -/
def execAddRm16R16 (rm : Rm16) (r : Reg16) (s : State) : Result := .next (intoRm16 addAlu rm (s.reg16 r) s)

/-- `ADD r8, r/m8` (R142). -/
def execAddR8Rm8 (r : Reg8) (rm : Rm8) (s : State) : Result := .next (intoRm8 addAlu (.reg r) (s.rm8 rm) s)

/-- `ADD r16, r/m16` (R142). -/
def execAddR16Rm16 (r : Reg16) (rm : Rm16) (s : State) : Result := .next (intoRm16 addAlu (.reg r) (s.rm16 rm) s)

/-- `ADD AL, ib` (R142). -/
def execAddAlIb (ib : Byte) (s : State) : Result := .next (intoRm8 addAlu (.reg .al) ib s)

/-- `ADD AX, iw` (R142). -/
def execAddAxIw (iw : Word) (s : State) : Result := .next (intoRm16 addAlu (.reg .ax) iw s)

/-- `ADD r/m8, ib` (R142). -/
def execAddRm8Ib (rm : Rm8) (ib : Byte) (s : State) : Result := .next (intoRm8 addAlu rm ib s)

/-- `ADD r/m16, iw` (R142). -/
def execAddRm16Iw (rm : Rm16) (iw : Word) (s : State) : Result := .next (intoRm16 addAlu rm iw s)

/-- `ADD r/m8, ib` (R142). -/
def execAddRm8Ib82 (rm : Rm8) (ib : Byte) (s : State) : Result := .next (intoRm8 addAlu rm ib s)

/-- `ADD r/m16, sext ib` (R142). -/
def execAddRm16Sext (rm : Rm16) (ib : Byte) (s : State) : Result := .next (intoRm16 addAlu rm (sext ib) s)

/-- `ADC r/m8, r8` (R143). -/
def execAdcRm8R8 (rm : Rm8) (r : Reg8) (s : State) : Result := .next (intoRm8 adcAlu rm (s.reg8 r) s)

/-- `ADC r/m16, r16` (R143). -/
def execAdcRm16R16 (rm : Rm16) (r : Reg16) (s : State) : Result := .next (intoRm16 adcAlu rm (s.reg16 r) s)

/-- `ADC r8, r/m8` (R143). -/
def execAdcR8Rm8 (r : Reg8) (rm : Rm8) (s : State) : Result := .next (intoRm8 adcAlu (.reg r) (s.rm8 rm) s)

/-- `ADC r16, r/m16` (R143). -/
def execAdcR16Rm16 (r : Reg16) (rm : Rm16) (s : State) : Result := .next (intoRm16 adcAlu (.reg r) (s.rm16 rm) s)

/-- `ADC AL, ib` (R143). -/
def execAdcAlIb (ib : Byte) (s : State) : Result := .next (intoRm8 adcAlu (.reg .al) ib s)

/-- `ADC AX, iw` (R143). -/
def execAdcAxIw (iw : Word) (s : State) : Result := .next (intoRm16 adcAlu (.reg .ax) iw s)

/-- `ADC r/m8, ib` (R143). -/
def execAdcRm8Ib (rm : Rm8) (ib : Byte) (s : State) : Result := .next (intoRm8 adcAlu rm ib s)

/-- `ADC r/m16, iw` (R143). -/
def execAdcRm16Iw (rm : Rm16) (iw : Word) (s : State) : Result := .next (intoRm16 adcAlu rm iw s)

/-- `ADC r/m8, ib` (R143). -/
def execAdcRm8Ib82 (rm : Rm8) (ib : Byte) (s : State) : Result := .next (intoRm8 adcAlu rm ib s)

/-- `ADC r/m16, sext ib` (R143). -/
def execAdcRm16Sext (rm : Rm16) (ib : Byte) (s : State) : Result := .next (intoRm16 adcAlu rm (sext ib) s)

/-- `SUB r/m8, r8` (R144). -/
def execSubRm8R8 (rm : Rm8) (r : Reg8) (s : State) : Result := .next (intoRm8 subAlu rm (s.reg8 r) s)

/-- `SUB r/m16, r16` (R144). -/
def execSubRm16R16 (rm : Rm16) (r : Reg16) (s : State) : Result := .next (intoRm16 subAlu rm (s.reg16 r) s)

/-- `SUB r8, r/m8` (R144). -/
def execSubR8Rm8 (r : Reg8) (rm : Rm8) (s : State) : Result := .next (intoRm8 subAlu (.reg r) (s.rm8 rm) s)

/-- `SUB r16, r/m16` (R144). -/
def execSubR16Rm16 (r : Reg16) (rm : Rm16) (s : State) : Result := .next (intoRm16 subAlu (.reg r) (s.rm16 rm) s)

/-- `SUB AL, ib` (R144). -/
def execSubAlIb (ib : Byte) (s : State) : Result := .next (intoRm8 subAlu (.reg .al) ib s)

/-- `SUB AX, iw` (R144). -/
def execSubAxIw (iw : Word) (s : State) : Result := .next (intoRm16 subAlu (.reg .ax) iw s)

/-- `SUB r/m8, ib` (R144). -/
def execSubRm8Ib (rm : Rm8) (ib : Byte) (s : State) : Result := .next (intoRm8 subAlu rm ib s)

/-- `SUB r/m16, iw` (R144). -/
def execSubRm16Iw (rm : Rm16) (iw : Word) (s : State) : Result := .next (intoRm16 subAlu rm iw s)

/-- `SUB r/m8, ib` (R144). -/
def execSubRm8Ib82 (rm : Rm8) (ib : Byte) (s : State) : Result := .next (intoRm8 subAlu rm ib s)

/-- `SUB r/m16, sext ib` (R144). -/
def execSubRm16Sext (rm : Rm16) (ib : Byte) (s : State) : Result := .next (intoRm16 subAlu rm (sext ib) s)

/-- `SBB r/m8, r8` (R145). -/
def execSbbRm8R8 (rm : Rm8) (r : Reg8) (s : State) : Result := .next (intoRm8 sbbAlu rm (s.reg8 r) s)

/-- `SBB r/m16, r16` (R145). -/
def execSbbRm16R16 (rm : Rm16) (r : Reg16) (s : State) : Result := .next (intoRm16 sbbAlu rm (s.reg16 r) s)

/-- `SBB r8, r/m8` (R145). -/
def execSbbR8Rm8 (r : Reg8) (rm : Rm8) (s : State) : Result := .next (intoRm8 sbbAlu (.reg r) (s.rm8 rm) s)

/-- `SBB r16, r/m16` (R145). -/
def execSbbR16Rm16 (r : Reg16) (rm : Rm16) (s : State) : Result := .next (intoRm16 sbbAlu (.reg r) (s.rm16 rm) s)

/-- `SBB AL, ib` (R145). -/
def execSbbAlIb (ib : Byte) (s : State) : Result := .next (intoRm8 sbbAlu (.reg .al) ib s)

/-- `SBB AX, iw` (R145). -/
def execSbbAxIw (iw : Word) (s : State) : Result := .next (intoRm16 sbbAlu (.reg .ax) iw s)

/-- `SBB r/m8, ib` (R145). -/
def execSbbRm8Ib (rm : Rm8) (ib : Byte) (s : State) : Result := .next (intoRm8 sbbAlu rm ib s)

/-- `SBB r/m16, iw` (R145). -/
def execSbbRm16Iw (rm : Rm16) (iw : Word) (s : State) : Result := .next (intoRm16 sbbAlu rm iw s)

/-- `SBB r/m8, ib` (R145). -/
def execSbbRm8Ib82 (rm : Rm8) (ib : Byte) (s : State) : Result := .next (intoRm8 sbbAlu rm ib s)

/-- `SBB r/m16, sext ib` (R145). -/
def execSbbRm16Sext (rm : Rm16) (ib : Byte) (s : State) : Result := .next (intoRm16 sbbAlu rm (sext ib) s)

/-- `CMP r/m8, r8` (R146). -/
def execCmpRm8R8 (rm : Rm8) (r : Reg8) (s : State) : Result := .next (subAlu (s.rm8 rm) (s.reg8 r) s).2

/-- `CMP r/m16, r16` (R146). -/
def execCmpRm16R16 (rm : Rm16) (r : Reg16) (s : State) : Result := .next (subAlu (s.rm16 rm) (s.reg16 r) s).2

/-- `CMP r8, r/m8` (R146). -/
def execCmpR8Rm8 (r : Reg8) (rm : Rm8) (s : State) : Result := .next (subAlu (s.reg8 r) (s.rm8 rm) s).2

/-- `CMP r16, r/m16` (R146). -/
def execCmpR16Rm16 (r : Reg16) (rm : Rm16) (s : State) : Result := .next (subAlu (s.reg16 r) (s.rm16 rm) s).2

/-- `CMP AL, ib` (R146). -/
def execCmpAlIb (ib : Byte) (s : State) : Result := .next (subAlu (s.reg8 .al) ib s).2

/-- `CMP AX, iw` (R146). -/
def execCmpAxIw (iw : Word) (s : State) : Result := .next (subAlu (s.reg16 .ax) iw s).2

/-- `CMP r/m8, ib` (R146). -/
def execCmpRm8Ib (rm : Rm8) (ib : Byte) (s : State) : Result := .next (subAlu (s.rm8 rm) ib s).2

/-- `CMP r/m16, iw` (R146). -/
def execCmpRm16Iw (rm : Rm16) (iw : Word) (s : State) : Result := .next (subAlu (s.rm16 rm) iw s).2

/-- `CMP r/m8, ib` (R146). -/
def execCmpRm8Ib82 (rm : Rm8) (ib : Byte) (s : State) : Result := .next (subAlu (s.rm8 rm) ib s).2

/-- `CMP r/m16, sext ib` (R146). -/
def execCmpRm16Sext (rm : Rm16) (ib : Byte) (s : State) : Result := .next (subAlu (s.rm16 rm) (sext ib) s).2

/-- `INC r16` (R147). -/
def execIncR16 (r : Reg16) (s : State) : Result := .next (s.modify16 (.reg r) incAlu)

/-- `INC r/m8` (R147). -/
def execIncRm8 (rm : Rm8) (s : State) : Result := .next (s.modify8 rm incAlu)

/-- `INC r/m16` (R147). -/
def execIncRm16 (rm : Rm16) (s : State) : Result := .next (s.modify16 rm incAlu)

/-- `DEC r16` (R148). -/
def execDecR16 (r : Reg16) (s : State) : Result := .next (s.modify16 (.reg r) decAlu)

/-- `DEC r/m8` (R148). -/
def execDecRm8 (rm : Rm8) (s : State) : Result := .next (s.modify8 rm decAlu)

/-- `DEC r/m16` (R148). -/
def execDecRm16 (rm : Rm16) (s : State) : Result := .next (s.modify16 rm decAlu)

/-- `MUL r/m8` (R149). -/
def execMulRm8 (rm : Rm8) (s : State) : Result := .next (s.mul8 (s.rm8 rm))

/-- `MUL r/m16` (R149). -/
def execMulRm16 (rm : Rm16) (s : State) : Result := .next (s.mul16 (s.rm16 rm))

/-- `DIV r/m8` (R150). -/
def execDivRm8 (rm : Rm8) (s : State) : Result := s.div8 (s.rm8 rm)

/-- `DIV r/m16` (R150). -/
def execDivRm16 (rm : Rm16) (s : State) : Result := s.div16 (s.rm16 rm)

end Sys2Proof.Machine
end

