-- ==== Sys2Proof/Machine/Logic.lean ====
section
/-! DEFINITION. AND OR XOR TEST NOT (41_logical.md R170 to R175). -/

namespace Sys2Proof.Machine

/-- AND (41_logical.md R171). -/
def andAlu {n : Nat} (a b : BitVec n) (s : State) : BitVec n × State := (a &&& b, s.logicFlags (a &&& b))

/-- OR (41_logical.md R172). -/
def orAlu {n : Nat} (a b : BitVec n) (s : State) : BitVec n × State := (a ||| b, s.logicFlags (a ||| b))

/-- XOR (41_logical.md R173). -/
def xorAlu {n : Nat} (a b : BitVec n) (s : State) : BitVec n × State := (a ^^^ b, s.logicFlags (a ^^^ b))

/-- NOT (41_logical.md R175): no flag. -/
def notAlu {n : Nat} (a : BitVec n) (s : State) : BitVec n × State := (~~~a, s)

/-- `AND r/m8, r8` (R171). -/
def execAndRm8R8 (rm : Rm8) (r : Reg8) (s : State) : Result := .next (intoRm8 andAlu rm (s.reg8 r) s)

/-- `AND r/m16, r16` (R171). -/
def execAndRm16R16 (rm : Rm16) (r : Reg16) (s : State) : Result := .next (intoRm16 andAlu rm (s.reg16 r) s)

/-- `AND r8, r/m8` (R171). -/
def execAndR8Rm8 (r : Reg8) (rm : Rm8) (s : State) : Result := .next (intoRm8 andAlu (.reg r) (s.rm8 rm) s)

/-- `AND r16, r/m16` (R171). -/
def execAndR16Rm16 (r : Reg16) (rm : Rm16) (s : State) : Result := .next (intoRm16 andAlu (.reg r) (s.rm16 rm) s)

/-- `AND AL, ib` (R171). -/
def execAndAlIb (ib : Byte) (s : State) : Result := .next (intoRm8 andAlu (.reg .al) ib s)

/-- `AND AX, iw` (R171). -/
def execAndAxIw (iw : Word) (s : State) : Result := .next (intoRm16 andAlu (.reg .ax) iw s)

/-- `AND r/m8, ib` (R171). -/
def execAndRm8Ib (rm : Rm8) (ib : Byte) (s : State) : Result := .next (intoRm8 andAlu rm ib s)

/-- `AND r/m16, iw` (R171). -/
def execAndRm16Iw (rm : Rm16) (iw : Word) (s : State) : Result := .next (intoRm16 andAlu rm iw s)

/-- `AND r/m8, ib` (R171). -/
def execAndRm8Ib82 (rm : Rm8) (ib : Byte) (s : State) : Result := .next (intoRm8 andAlu rm ib s)

/-- `AND r/m16, sext ib` (R171). -/
def execAndRm16Sext (rm : Rm16) (ib : Byte) (s : State) : Result := .next (intoRm16 andAlu rm (sext ib) s)

/-- `OR r/m8, r8` (R172). -/
def execOrRm8R8 (rm : Rm8) (r : Reg8) (s : State) : Result := .next (intoRm8 orAlu rm (s.reg8 r) s)

/-- `OR r/m16, r16` (R172). -/
def execOrRm16R16 (rm : Rm16) (r : Reg16) (s : State) : Result := .next (intoRm16 orAlu rm (s.reg16 r) s)

/-- `OR r8, r/m8` (R172). -/
def execOrR8Rm8 (r : Reg8) (rm : Rm8) (s : State) : Result := .next (intoRm8 orAlu (.reg r) (s.rm8 rm) s)

/-- `OR r16, r/m16` (R172). -/
def execOrR16Rm16 (r : Reg16) (rm : Rm16) (s : State) : Result := .next (intoRm16 orAlu (.reg r) (s.rm16 rm) s)

/-- `OR AL, ib` (R172). -/
def execOrAlIb (ib : Byte) (s : State) : Result := .next (intoRm8 orAlu (.reg .al) ib s)

/-- `OR AX, iw` (R172). -/
def execOrAxIw (iw : Word) (s : State) : Result := .next (intoRm16 orAlu (.reg .ax) iw s)

/-- `OR r/m8, ib` (R172). -/
def execOrRm8Ib (rm : Rm8) (ib : Byte) (s : State) : Result := .next (intoRm8 orAlu rm ib s)

/-- `OR r/m16, iw` (R172). -/
def execOrRm16Iw (rm : Rm16) (iw : Word) (s : State) : Result := .next (intoRm16 orAlu rm iw s)

/-- `OR r/m8, ib` (R172). -/
def execOrRm8Ib82 (rm : Rm8) (ib : Byte) (s : State) : Result := .next (intoRm8 orAlu rm ib s)

/-- `OR r/m16, sext ib` (R172). -/
def execOrRm16Sext (rm : Rm16) (ib : Byte) (s : State) : Result := .next (intoRm16 orAlu rm (sext ib) s)

/-- `XOR r/m8, r8` (R173). -/
def execXorRm8R8 (rm : Rm8) (r : Reg8) (s : State) : Result := .next (intoRm8 xorAlu rm (s.reg8 r) s)

/-- `XOR r/m16, r16` (R173). -/
def execXorRm16R16 (rm : Rm16) (r : Reg16) (s : State) : Result := .next (intoRm16 xorAlu rm (s.reg16 r) s)

/-- `XOR r8, r/m8` (R173). -/
def execXorR8Rm8 (r : Reg8) (rm : Rm8) (s : State) : Result := .next (intoRm8 xorAlu (.reg r) (s.rm8 rm) s)

/-- `XOR r16, r/m16` (R173). -/
def execXorR16Rm16 (r : Reg16) (rm : Rm16) (s : State) : Result := .next (intoRm16 xorAlu (.reg r) (s.rm16 rm) s)

/-- `XOR AL, ib` (R173). -/
def execXorAlIb (ib : Byte) (s : State) : Result := .next (intoRm8 xorAlu (.reg .al) ib s)

/-- `XOR AX, iw` (R173). -/
def execXorAxIw (iw : Word) (s : State) : Result := .next (intoRm16 xorAlu (.reg .ax) iw s)

/-- `XOR r/m8, ib` (R173). -/
def execXorRm8Ib (rm : Rm8) (ib : Byte) (s : State) : Result := .next (intoRm8 xorAlu rm ib s)

/-- `XOR r/m16, iw` (R173). -/
def execXorRm16Iw (rm : Rm16) (iw : Word) (s : State) : Result := .next (intoRm16 xorAlu rm iw s)

/-- `XOR r/m8, ib` (R173). -/
def execXorRm8Ib82 (rm : Rm8) (ib : Byte) (s : State) : Result := .next (intoRm8 xorAlu rm ib s)

/-- `XOR r/m16, sext ib` (R173). -/
def execXorRm16Sext (rm : Rm16) (ib : Byte) (s : State) : Result := .next (intoRm16 xorAlu rm (sext ib) s)

/-- `TEST r/m8, r8` (R174). -/
def execTestRm8R8 (rm : Rm8) (r : Reg8) (s : State) : Result := .next (andAlu (s.rm8 rm) (s.reg8 r) s).2

/-- `TEST r/m16, r16` (R174). -/
def execTestRm16R16 (rm : Rm16) (r : Reg16) (s : State) : Result := .next (andAlu (s.rm16 rm) (s.reg16 r) s).2

/-- `TEST AL, ib` (R174). -/
def execTestAlIb (ib : Byte) (s : State) : Result := .next (andAlu (s.reg8 .al) ib s).2

/-- `TEST AX, iw` (R174). -/
def execTestAxIw (iw : Word) (s : State) : Result := .next (andAlu (s.reg16 .ax) iw s).2

/-- `TEST r/m8, ib` (R174). -/
def execTestRm8Ib (rm : Rm8) (ib : Byte) (s : State) : Result := .next (andAlu (s.rm8 rm) ib s).2

/-- `TEST r/m16, iw` (R174). -/
def execTestRm16Iw (rm : Rm16) (iw : Word) (s : State) : Result := .next (andAlu (s.rm16 rm) iw s).2

/-- `NOT r/m8` (R175). -/
def execNotRm8 (rm : Rm8) (s : State) : Result := .next (s.modify8 rm notAlu)

/-- `NOT r/m16` (R175). -/
def execNotRm16 (rm : Rm16) (s : State) : Result := .next (s.modify16 rm notAlu)

end Sys2Proof.Machine
end

