-- ==== Sys2Proof/Machine/Prefixes.lean ====
section
/-! DEFINITION. The prefix bytes (30_encoding.md R91 to R93): each writes its part of the instruction being decoded, and nothing else. -/

namespace Sys2Proof.Machine

/-- A segment prefix: the last one wins (30_encoding.md R93). -/
def State.setSegPrefix (s : State) (r : SReg) : State := { s with cur := { s.cur with seg := some r } }

/-- A repetition prefix: the last one wins (30_encoding.md R93). -/
def State.setRepPrefix (s : State) (p : RepPrefix) : State := { s with cur := { s.cur with rep := p } }

/-! ## The prefix rows -/

/-- `prefix ES:` (R91, R93). -/
def execPrefixEs (s : State) : Result := .next (s.setSegPrefix .es)

/-- `prefix CS:` (R91, R93). -/
def execPrefixCs (s : State) : Result := .next (s.setSegPrefix .cs)

/-- `prefix SS:` (R91, R93). -/
def execPrefixSs (s : State) : Result := .next (s.setSegPrefix .ss)

/-- `prefix DS:` (R91, R93). -/
def execPrefixDs (s : State) : Result := .next (s.setSegPrefix .ds)

/-- `prefix REPNZ` (R92, R93). -/
def execPrefixRepnz (s : State) : Result := .next (s.setRepPrefix .repNZ)

/-- `prefix REP/REPZ` (R92, R93). -/
def execPrefixRep (s : State) : Result := .next (s.setRepPrefix .rep)

end Sys2Proof.Machine
end

