-- ==== Sys2Proof/Machine/Shift.lean ====
section
/-! DEFINITION. SHL SHR SAR ROL ROR RCL RCR (42_shift_rotate.md R190 to R198). -/

namespace Sys2Proof.Machine

/-- `count` times one bit. -/
def iterate {α : Type} (f : α → α) : Nat → α → α
  | 0, x => x
  | n + 1, x => iterate f n (f x)

/-! ## One bit of each operation, on the value and CF (42_shift_rotate.md R191 to R197) -/

/-- One bit of SHL: the top bit goes to CF, a zero enters below (R191). -/
def shlBit {n : Nat} (x : BitVec n × Bool) : BitVec n × Bool := (x.1 <<< 1, x.1.msb)

/-- One bit of SHR: bit 0 goes to CF, a zero enters above (R192). -/
def shrBit {n : Nat} (x : BitVec n × Bool) : BitVec n × Bool := (x.1 >>> 1, x.1.getLsbD 0)

/-- One bit of SAR: bit 0 goes to CF, the sign stays (R193). -/
def sarBit {n : Nat} (x : BitVec n × Bool) : BitVec n × Bool := (x.1.sshiftRight 1, x.1.getLsbD 0)

/-- A Boolean as bit 0 of a value of width n. -/
def lowBit {n : Nat} (b : Bool) : BitVec n := if b then 1 else 0

/-- A Boolean as the top bit of a value of width n. -/
def topBit {n : Nat} (b : Bool) : BitVec n := if b then BitVec.twoPow n (n - 1) else 0

/-- One bit of ROL: the top bit goes to CF and to bit 0 (R194). -/
def rolBit {n : Nat} (x : BitVec n × Bool) : BitVec n × Bool := (x.1 <<< 1 ||| lowBit x.1.msb, x.1.msb)

/-- One bit of ROR: bit 0 goes to CF and to the top bit (R195). -/
def rorBit {n : Nat} (x : BitVec n × Bool) : BitVec n × Bool := (x.1 >>> 1 ||| topBit (x.1.getLsbD 0), x.1.getLsbD 0)

/-- One bit of RCL: CF enters at bit 0, the top bit goes to CF (R196). -/
def rclBit {n : Nat} (x : BitVec n × Bool) : BitVec n × Bool := (x.1 <<< 1 ||| lowBit x.2, x.1.msb)

/-- One bit of RCR: CF enters at the top bit, bit 0 goes to CF (R197). -/
def rcrBit {n : Nat} (x : BitVec n × Bool) : BitVec n × Bool := (x.1 >>> 1 ||| topBit x.2, x.1.getLsbD 0)

/-! ## Flags -/

/-- OF after a shift or rotate: `v` when the count is 1, else undefined (42_shift_rotate.md R190). -/
def State.shiftOF (s : State) (count : Nat) (v : Bool) : State :=
  if count = 1 then s.setFlags { s.flags with OF := v } else s.undefOF

/-- The bit below the top bit (the `v[N-2]` of 42_shift_rotate.md R195, R197). -/
def nextToTop {n : Nat} (r : BitVec n) : Bool := r.getLsbD (n - 2)

/-- The flags of the shifts: CF, SZP from the result, OF by the count, AF undefined (R190). -/
def State.afterShift {n : Nat} (s : State) (count : Nat) (r : BitVec n) (cf of : Bool) : State :=
  ((s.setFlags (({ s.flags with CF := cf } : Flags).setSZP r)).shiftOF count of).undefAF

/-- The flags of the rotates: CF, and OF by the count (R190). -/
def State.afterRotate (s : State) (count : Nat) (cf of : Bool) : State :=
  (s.setFlags { s.flags with CF := cf }).shiftOF count of

/-! ## The operations, for a count that is not 0 -/

/-- SHL (42_shift_rotate.md R191). -/
def shlOp {n : Nat} (count : Nat) (v : BitVec n) (s : State) : BitVec n × State :=
  let x := iterate shlBit count (v, s.flags.CF)
  (x.1, s.afterShift count x.1 x.2 (x.2 ^^ x.1.msb))

/-- SHR (42_shift_rotate.md R192). -/
def shrOp {n : Nat} (count : Nat) (v : BitVec n) (s : State) : BitVec n × State :=
  let x := iterate shrBit count (v, s.flags.CF)
  (x.1, s.afterShift count x.1 x.2 v.msb)

/-- SAR (42_shift_rotate.md R193). -/
def sarOp {n : Nat} (count : Nat) (v : BitVec n) (s : State) : BitVec n × State :=
  let x := iterate sarBit count (v, s.flags.CF)
  (x.1, s.afterShift count x.1 x.2 false)

/-- ROL (42_shift_rotate.md R194). -/
def rolOp {n : Nat} (count : Nat) (v : BitVec n) (s : State) : BitVec n × State :=
  let x := iterate rolBit count (v, s.flags.CF)
  (x.1, s.afterRotate count x.2 (x.1.msb ^^ x.2))

/-- ROR (42_shift_rotate.md R195). -/
def rorOp {n : Nat} (count : Nat) (v : BitVec n) (s : State) : BitVec n × State :=
  let x := iterate rorBit count (v, s.flags.CF)
  (x.1, s.afterRotate count x.2 (x.1.msb ^^ nextToTop x.1))

/-- RCL (42_shift_rotate.md R196). -/
def rclOp {n : Nat} (count : Nat) (v : BitVec n) (s : State) : BitVec n × State :=
  let x := iterate rclBit count (v, s.flags.CF)
  (x.1, s.afterRotate count x.2 (x.1.msb ^^ x.2))

/-- RCR (42_shift_rotate.md R197). -/
def rcrOp {n : Nat} (count : Nat) (v : BitVec n) (s : State) : BitVec n × State :=
  let x := iterate rcrBit count (v, s.flags.CF)
  (x.1, s.afterRotate count x.2 (x.1.msb ^^ nextToTop x.1))

/-- The count of the by-CL forms: `CL & 0x1F` (42_shift_rotate.md R190). -/
def State.countCL (s : State) : Nat := (s.reg8 .cl &&& 0x1F).toNat

/-- With count 0 nothing is written (42_shift_rotate.md R190). -/
def State.shift8 (s : State) (op : Nat → Byte → State → Byte × State) (rm : Rm8) (count : Nat) : State :=
  if count = 0 then s else s.modify8 rm (op count)

/-- With count 0 nothing is written (42_shift_rotate.md R190). -/
def State.shift16 (s : State) (op : Nat → Word → State → Word × State) (rm : Rm16) (count : Nat) : State :=
  if count = 0 then s else s.modify16 rm (op count)

/-! ## The instructions -/

/-- `ROL r/m8, 1` (R194). -/
def execRolRm8One (rm : Rm8) (s : State) : Result := .next (s.shift8 rolOp rm 1)

/-- `ROL r/m8, CL` (R194). -/
def execRolRm8Cl (rm : Rm8) (s : State) : Result := .next (s.shift8 rolOp rm s.countCL)

/-- `ROL r/m16, 1` (R194). -/
def execRolRm16One (rm : Rm16) (s : State) : Result := .next (s.shift16 rolOp rm 1)

/-- `ROL r/m16, CL` (R194). -/
def execRolRm16Cl (rm : Rm16) (s : State) : Result := .next (s.shift16 rolOp rm s.countCL)

/-- `ROR r/m8, 1` (R195). -/
def execRorRm8One (rm : Rm8) (s : State) : Result := .next (s.shift8 rorOp rm 1)

/-- `ROR r/m8, CL` (R195). -/
def execRorRm8Cl (rm : Rm8) (s : State) : Result := .next (s.shift8 rorOp rm s.countCL)

/-- `ROR r/m16, 1` (R195). -/
def execRorRm16One (rm : Rm16) (s : State) : Result := .next (s.shift16 rorOp rm 1)

/-- `ROR r/m16, CL` (R195). -/
def execRorRm16Cl (rm : Rm16) (s : State) : Result := .next (s.shift16 rorOp rm s.countCL)

/-- `RCL r/m8, 1` (R196). -/
def execRclRm8One (rm : Rm8) (s : State) : Result := .next (s.shift8 rclOp rm 1)

/-- `RCL r/m8, CL` (R196). -/
def execRclRm8Cl (rm : Rm8) (s : State) : Result := .next (s.shift8 rclOp rm s.countCL)

/-- `RCL r/m16, 1` (R196). -/
def execRclRm16One (rm : Rm16) (s : State) : Result := .next (s.shift16 rclOp rm 1)

/-- `RCL r/m16, CL` (R196). -/
def execRclRm16Cl (rm : Rm16) (s : State) : Result := .next (s.shift16 rclOp rm s.countCL)

/-- `RCR r/m8, 1` (R197). -/
def execRcrRm8One (rm : Rm8) (s : State) : Result := .next (s.shift8 rcrOp rm 1)

/-- `RCR r/m8, CL` (R197). -/
def execRcrRm8Cl (rm : Rm8) (s : State) : Result := .next (s.shift8 rcrOp rm s.countCL)

/-- `RCR r/m16, 1` (R197). -/
def execRcrRm16One (rm : Rm16) (s : State) : Result := .next (s.shift16 rcrOp rm 1)

/-- `RCR r/m16, CL` (R197). -/
def execRcrRm16Cl (rm : Rm16) (s : State) : Result := .next (s.shift16 rcrOp rm s.countCL)

/-- `SHL r/m8, 1` (R191). -/
def execShlRm8One (rm : Rm8) (s : State) : Result := .next (s.shift8 shlOp rm 1)

/-- `SHL r/m8, CL` (R191). -/
def execShlRm8Cl (rm : Rm8) (s : State) : Result := .next (s.shift8 shlOp rm s.countCL)

/-- `SHL r/m16, 1` (R191). -/
def execShlRm16One (rm : Rm16) (s : State) : Result := .next (s.shift16 shlOp rm 1)

/-- `SHL r/m16, CL` (R191). -/
def execShlRm16Cl (rm : Rm16) (s : State) : Result := .next (s.shift16 shlOp rm s.countCL)

/-- `SHR r/m8, 1` (R192). -/
def execShrRm8One (rm : Rm8) (s : State) : Result := .next (s.shift8 shrOp rm 1)

/-- `SHR r/m8, CL` (R192). -/
def execShrRm8Cl (rm : Rm8) (s : State) : Result := .next (s.shift8 shrOp rm s.countCL)

/-- `SHR r/m16, 1` (R192). -/
def execShrRm16One (rm : Rm16) (s : State) : Result := .next (s.shift16 shrOp rm 1)

/-- `SHR r/m16, CL` (R192). -/
def execShrRm16Cl (rm : Rm16) (s : State) : Result := .next (s.shift16 shrOp rm s.countCL)

/-- `SAR r/m8, 1` (R193). -/
def execSarRm8One (rm : Rm8) (s : State) : Result := .next (s.shift8 sarOp rm 1)

/-- `SAR r/m8, CL` (R193). -/
def execSarRm8Cl (rm : Rm8) (s : State) : Result := .next (s.shift8 sarOp rm s.countCL)

/-- `SAR r/m16, 1` (R193). -/
def execSarRm16One (rm : Rm16) (s : State) : Result := .next (s.shift16 sarOp rm 1)

/-- `SAR r/m16, CL` (R193). -/
def execSarRm16Cl (rm : Rm16) (s : State) : Result := .next (s.shift16 sarOp rm s.countCL)

end Sys2Proof.Machine
end

