-- ==== Sys2Proof/Machine/RunState.lean ====
section
/-! DEFINITION. The boot entries (70_reset_and_hazards.md R391 to R396), the host's calls and the suspension points (60_exceptions.md R370 to
R377). -/

namespace Sys2Proof.Machine

/-! ## Boot entries (70_reset_and_hazards.md R391 to R396) -/

/-- What a boot entry with a good image does first: registers, flags, `LAST_CS:LAST_IP` and memory back to power-on; run state,
requested state and the callbacks stay (70_reset_and_hazards.md R391). From here on an image has been loaded (R390). -/
def State.powerOn (s : State) : State :=
  { s with regs := Regs.zero, flags := Flags.clear, mem := [], LAST_CS := 0, LAST_IP := 0, booted := true }

/-- A floppy image can be booted: sector 0 is whole and bytes 0x1FE, 0x1FF are 55 AA (70_reset_and_hazards.md R392). -/
def bootable (image : List Byte) : Bool :=
  decide (512 ≤ image.length) && (image.getD 0x1FE 0 == 0x55) && (image.getD 0x1FF 0 == 0xAA)

/-- `BootFloppy()` while Stopped (70_reset_and_hazards.md R392, R393). -/
def State.bootFloppy (s : State) (image : Option (List Byte)) : State :=
  match image with
  | none => s.log .preBootError
  | some bytes =>
    if bootable bytes then
      let t := s.powerOn
      ({ t with mem := t.mem.writeBytes 0 0x7C00 (bytes.take 512) } : State).setCSIP 0 0x7C00
    else s.log .preBootError

/-- `BootCOM(path)` while Stopped (70_reset_and_hazards.md R394, R395). -/
def State.bootCom (s : State) (segment : Word) (image : Option (List Byte)) : State :=
  match image with
  | none => s.log .preBootError
  | some bytes =>
    if bytes.length ≤ Config.maxComBytes then
      let t := s.powerOn
      { t with
        mem := (t.mem.writeBytes segment 0x0100 bytes).write16 segment 0xFFFE 0
        regs := { t.regs with CS := segment, DS := segment, ES := segment, SS := segment, IP := 0x0100, SP := 0xFFFE } }
    else s.log .preBootError

/-! ## The control surface (60_exceptions.md R372, R373, R376, R377) -/

/-- One call of the host. `Start()` runs from the CS:IP there is (60_exceptions.md R372), once a boot entry has loaded an image:
10_state.md R48, "No instruction can run in this state: the core starts ticking only after a boot entry". DEDUCED: before that it has no
effect (log entry 28). -/
def State.hostCall (s : State) (c : HostCall) : State :=
  match c with
  | .start =>
    if s.run_state = .stopped ∧ s.booted = true then ({ s with requested_state := .running } : State).enter .running else s
  | .stop => { s with requested_state := .stopped }
  | .setPaused true => if s.requested_state = .running then { s with requested_state := .paused } else s
  | .setPaused false => if s.requested_state = .paused then { s with requested_state := .running } else s
  | .registerCallback =>
    ({ s with callbacks := s.callbacks ++ [s.nextHandle], nextHandle := s.nextHandle + 1 } : State).log
      (.registered s.nextHandle)
  | .unregisterCallback h => { s with callbacks := s.callbacks.filter (fun k => k != h) }
  | .bootFloppy image => if s.run_state = .stopped then s.bootFloppy image else s
  | .bootCom segment image => if s.run_state = .stopped then s.bootCom segment image else s

/-- The calls of a batch, in order. -/
def State.hostCalls (s : State) : List HostCall → State
  | [] => s
  | c :: cs => (s.hostCall c).hostCalls cs

/-- The host's calls since the last suspension point take effect: the next batch of the inbox. -/
def State.deliver (s : State) : State :=
  match s.inbox with
  | [] => s
  | batch :: rest => ({ s with inbox := rest } : State).hostCalls batch

/-! ## Suspension points (60_exceptions.md R374) -/

/-- The CPU thread looks at the requested state and follows it. -/
def State.sample (s : State) : State :=
  match s.run_state, s.requested_state with
  | .stopped, _ => s
  | .running, .running => s
  | .running, .paused => s.enter .paused
  | .paused, .paused => s
  | .paused, .running => s.enter .running
  | _, .stopped => s.endRun

/-- `SuspensionPoint()`: what the host has called by now, then the look at the requested state. -/
def State.suspend (s : State) : State := s.deliver.sample

end Sys2Proof.Machine
end

