-- ==== Sys2Proof/Machine/Strings.lean ====
section
/-! DEFINITION. MOVS CMPS LODS STOS SCAS and the repetition loop (43_string.md R210 to R216). -/

namespace Sys2Proof.Machine

/-- The step of SI and DI for elements of `n` bytes: up or down by DF (43_string.md R210). -/
def State.delta (s : State) (n : Word) : Word := if s.flags.DF then -n else n

/-- `Step(SI)` of 43_string.md R210. -/
def State.stepSI (s : State) (n : Word) : State := s.setReg16 .si (s.regs.SI + s.delta n)

/-- `Step(DI)` of 43_string.md R210. -/
def State.stepDI (s : State) (n : Word) : State := s.setReg16 .di (s.regs.DI + s.delta n)

/-- The byte at the source, `sseg:SI`; a segment prefix acts here only (43_string.md R210). -/
def State.src8 (s : State) : Byte := s.mem.read8 (s.segOr .ds) s.regs.SI

/-- The word at the source, `sseg:SI` (43_string.md R210). -/
def State.src16 (s : State) : Word := s.mem.read16 (s.segOr .ds) s.regs.SI

/-- The byte at the destination, `ES:DI` (43_string.md R210). -/
def State.dst8 (s : State) : Byte := s.mem.read8 s.regs.ES s.regs.DI

/-- The word at the destination, `ES:DI` (43_string.md R210). -/
def State.dst16 (s : State) : Word := s.mem.read16 s.regs.ES s.regs.DI

/-! ## One iteration of each primitive -/

/-- MOVSB (43_string.md R211). -/
def iterMovsb (s : State) : State := ((s.write8 s.regs.ES s.regs.DI s.src8).stepSI 1).stepDI 1

/-- MOVSW (43_string.md R211). -/
def iterMovsw (s : State) : State := ((s.write16 s.regs.ES s.regs.DI s.src16).stepSI 2).stepDI 2

/-- CMPSB (43_string.md R212): source minus destination. -/
def iterCmpsb (s : State) : State := ((subAlu s.src8 s.dst8 s).2.stepSI 1).stepDI 1

/-- CMPSW (43_string.md R212): source minus destination. -/
def iterCmpsw (s : State) : State := ((subAlu s.src16 s.dst16 s).2.stepSI 2).stepDI 2

/-- LODSB (43_string.md R213). -/
def iterLodsb (s : State) : State := (s.setReg8 .al s.src8).stepSI 1

/-- LODSW (43_string.md R213). -/
def iterLodsw (s : State) : State := (s.setReg16 .ax s.src16).stepSI 2

/-- STOSB (43_string.md R214). -/
def iterStosb (s : State) : State := (s.write8 s.regs.ES s.regs.DI (s.reg8 .al)).stepDI 1

/-- STOSW (43_string.md R214). -/
def iterStosw (s : State) : State := (s.write16 s.regs.ES s.regs.DI s.regs.AX).stepDI 2

/-- SCASB (43_string.md R215): accumulator minus element. -/
def iterScasb (s : State) : State := (subAlu (s.reg8 .al) s.dst8 s).2.stepDI 1

/-- SCASW (43_string.md R215): accumulator minus element. -/
def iterScasw (s : State) : State := (subAlu s.regs.AX s.dst16 s).2.stepDI 2

/-! ## The repetition loop (43_string.md R216) -/

/-- Whether the ZF just written ends the loop of a CMPS or SCAS (43_string.md R216): `F3` repeats while equal, `F2` while not. -/
def State.zfEnds (s : State) (compares : Bool) : Bool :=
  compares && (match s.cur.rep with
    | .rep => !s.flags.ZF
    | .repNZ => s.flags.ZF
    | .none => false)

/-- One iteration, then `CX <- CX - 1` with no flag written (43_string.md R216). -/
def State.countDown (s : State) : State := s.setReg16 .cx (s.regs.CX - 1)

/-- `while CX != 0` of 43_string.md R216 for the primitive `i`: an iteration, the count, the ZF test, and a suspension point between
iterations. A pause there leaves the loop to be resumed, a stop abandons it. `fuel` is the count at the start. -/
def repLoop (i : Instr) (iter : State → State) (compares : Bool) : Nat → State → State
  | 0, s => s
  | fuel + 1, s =>
    if s.regs.CX = 0 then s
    else
      let t := (iter s).countDown
      if t.zfEnds compares then t
      else
        let u := t.suspend
        match u.run_state with
        | .running => repLoop i iter compares fuel u
        | .paused => { u with pending := some i }
        | .stopped => u

/-- A string primitive, once or repeated (43_string.md R216). -/
def stringOp (i : Instr) (iter : State → State) (compares : Bool) (s : State) : State :=
  match s.cur.rep with
  | .none => iter s
  | _ => repLoop i iter compares s.regs.CX.toNat s

/-! ## The instructions -/

/-- `MOVSB` (R211, R216). -/
def execMovsb (s : State) : Result := .next (stringOp .movsb iterMovsb false s)

/-- `MOVSW` (R211, R216). -/
def execMovsw (s : State) : Result := .next (stringOp .movsw iterMovsw false s)

/-- `CMPSB` (R212, R216). -/
def execCmpsb (s : State) : Result := .next (stringOp .cmpsb iterCmpsb true s)

/-- `CMPSW` (R212, R216). -/
def execCmpsw (s : State) : Result := .next (stringOp .cmpsw iterCmpsw true s)

/-- `STOSB` (R214, R216). -/
def execStosb (s : State) : Result := .next (stringOp .stosb iterStosb false s)

/-- `STOSW` (R214, R216). -/
def execStosw (s : State) : Result := .next (stringOp .stosw iterStosw false s)

/-- `LODSB` (R213, R216). -/
def execLodsb (s : State) : Result := .next (stringOp .lodsb iterLodsb false s)

/-- `LODSW` (R213, R216). -/
def execLodsw (s : State) : Result := .next (stringOp .lodsw iterLodsw false s)

/-- `SCASB` (R215, R216). -/
def execScasb (s : State) : Result := .next (stringOp .scasb iterScasb true s)

/-- `SCASW` (R215, R216). -/
def execScasw (s : State) : Result := .next (stringOp .scasw iterScasw true s)

end Sys2Proof.Machine
end

