-- ==== Sys2Proof/Machine/Transfer.lean ====
section
/-! DEFINITION. MOV XCHG LEA LDS LES PUSH POP PUSHF POPF (44_transfer.md R230 to R255). -/

namespace Sys2Proof.Machine

/-- PUSH of a word register; `PUSH SP` stores the new SP when `PUSH_SP_NEW` (44_transfer.md R248). -/
def State.pushReg (s : State) (r : Reg16) : State :=
  if r = .sp ∧ Config.pushSpNew then
    let sp := s.regs.SP - 2
    (s.setReg16 .sp sp).write16 s.regs.SS sp sp
  else s.push16 (s.reg16 r)

/-- XCHG of an `r/m8` with a register: both read, then both written (44_transfer.md R240). -/
def State.xchg8 (s : State) (rm : Rm8) (r : Reg8) : State := (s.put8 (s.loc8 rm) (s.reg8 r)).setReg8 r (s.rm8 rm)

/-- XCHG of an `r/m16` with a register: both read, then both written (44_transfer.md R240). -/
def State.xchg16 (s : State) (rm : Rm16) (r : Reg16) : State := (s.put16 (s.loc16 rm) (s.reg16 r)).setReg16 r (s.rm16 rm)

/-- POP to an `r/m16`, whose place is computed before the pop (44_transfer.md R252). -/
def State.popTo (s : State) (rm : Rm16) : State := s.dropTop.put16 (s.loc16 rm) s.top16

/-- POP of a segment register (44_transfer.md R253): the word is read through the old SS. -/
def State.popSReg (s : State) (r : SReg) : State := s.dropTop.setSReg r s.top16

/-- LDS and LES (44_transfer.md R244, R245): both words are read before either register is written. -/
def State.loadFar (s : State) (sr : SReg) (r : Reg16) (m : MemOp) : State :=
  (s.setReg16 r (s.farPointer m).1).setSReg sr (s.farPointer m).2

/-! ## The instructions -/

/-- `MOV r/m8, r8` (R231). -/
def execMovRm8R8 (rm : Rm8) (r : Reg8) (s : State) : Result := .next (s.put8 (s.loc8 rm) (s.reg8 r))

/-- `MOV r/m16, r16` (R231). -/
def execMovRm16R16 (rm : Rm16) (r : Reg16) (s : State) : Result := .next (s.put16 (s.loc16 rm) (s.reg16 r))

/-- `MOV r8, r/m8` (R231). -/
def execMovR8Rm8 (r : Reg8) (rm : Rm8) (s : State) : Result := .next (s.setReg8 r (s.rm8 rm))

/-- `MOV r16, r/m16` (R231). -/
def execMovR16Rm16 (r : Reg16) (rm : Rm16) (s : State) : Result := .next (s.setReg16 r (s.rm16 rm))

/-- `MOV r/m8, ib` (R232). -/
def execMovRm8Ib (rm : Rm8) (ib : Byte) (s : State) : Result := .next (s.put8 (s.loc8 rm) ib)

/-- `MOV r/m16, iw` (R232). -/
def execMovRm16Iw (rm : Rm16) (iw : Word) (s : State) : Result := .next (s.put16 (s.loc16 rm) iw)

/-- `MOV r8, ib` (R233). -/
def execMovR8Ib (r : Reg8) (ib : Byte) (s : State) : Result := .next (s.setReg8 r ib)

/-- `MOV r16, iw` (R233). -/
def execMovR16Iw (r : Reg16) (iw : Word) (s : State) : Result := .next (s.setReg16 r iw)

/-- `MOV AL, [moffs]` (R234). -/
def execMovAlMoffs (moffs : Word) (s : State) : Result := .next (s.setReg8 .al (s.mem.read8 (s.segOr .ds) moffs))

/-- `MOV AX, [moffs]` (R234). -/
def execMovAxMoffs (moffs : Word) (s : State) : Result := .next (s.setReg16 .ax (s.mem.read16 (s.segOr .ds) moffs))

/-- `MOV [moffs], AL` (R235). -/
def execMovMoffsAl (moffs : Word) (s : State) : Result := .next (s.write8 (s.segOr .ds) moffs (s.reg8 .al))

/-- `MOV [moffs], AX` (R235). -/
def execMovMoffsAx (moffs : Word) (s : State) : Result := .next (s.write16 (s.segOr .ds) moffs s.regs.AX)

/-- `MOV r/m16, sreg` (R236). -/
def execMovRm16Sreg (rm : Rm16) (sr : SReg) (s : State) : Result := .next (s.put16 (s.loc16 rm) (s.sreg sr))

/-- `MOV sreg, r/m16` (R237). -/
def execMovSregRm16 (sr : SReg) (rm : Rm16) (s : State) : Result := .next (s.setSReg sr (s.rm16 rm))

/-- `XCHG r/m8, r8` (R240). -/
def execXchgRm8R8 (rm : Rm8) (r : Reg8) (s : State) : Result := .next (s.xchg8 rm r)

/-- `XCHG r/m16, r16` (R240). -/
def execXchgRm16R16 (rm : Rm16) (r : Reg16) (s : State) : Result := .next (s.xchg16 rm r)

/-- `XCHG AX, r16 (NOP when r=0)` (R241). -/
def execXchgAxR16 (r : Reg16) (s : State) : Result := .next (s.xchg16 (.reg .ax) r)

/-- `LEA r16, m` (R243). -/
def execLeaR16M (r : Reg16) (m : MemOp) (s : State) : Result := .next (s.setReg16 r (s.ea m))

/-- `LDS r16, m16:16` (R244). -/
def execLdsR16M (r : Reg16) (m : MemOp) (s : State) : Result := .next (s.loadFar .ds r m)

/-- `LES r16, m16:16` (R245). -/
def execLesR16M (r : Reg16) (m : MemOp) (s : State) : Result := .next (s.loadFar .es r m)

/-- `PUSH r16` (R248). -/
def execPushR16 (r : Reg16) (s : State) : Result := .next (s.pushReg r)

/-- `PUSH r/m16` (R249). -/
def execPushRm16 (rm : Rm16) (s : State) : Result :=
  match rm with
  | .reg r => .next (s.pushReg r)
  | .mem m => .next (s.push16 (s.rm16 (.mem m)))

/-- `PUSH ES` (R250). -/
def execPushEs (s : State) : Result := .next (s.push16 (s.sreg .es))

/-- `PUSH CS` (R250). -/
def execPushCs (s : State) : Result := .next (s.push16 (s.sreg .cs))

/-- `PUSH SS` (R250). -/
def execPushSs (s : State) : Result := .next (s.push16 (s.sreg .ss))

/-- `PUSH DS` (R250). -/
def execPushDs (s : State) : Result := .next (s.push16 (s.sreg .ds))

/-- `POP r16` (R251). -/
def execPopR16 (r : Reg16) (s : State) : Result := .next (s.popTo (.reg r))

/-- `POP r/m16` (R252). -/
def execPopRm16 (rm : Rm16) (s : State) : Result := .next (s.popTo rm)

/-- `POP ES` (R253). -/
def execPopEs (s : State) : Result := .next (s.popSReg .es)

/-- `POP SS` (R253). -/
def execPopSs (s : State) : Result := .next (s.popSReg .ss)

/-- `POP DS` (R253). -/
def execPopDs (s : State) : Result := .next (s.popSReg .ds)

/-- `PUSHF` (R254). -/
def execPushf (s : State) : Result := .next (s.push16 s.flags.pack)

/-- `POPF` (R255). -/
def execPopf (s : State) : Result := .next (s.dropTop.setFlags (Flags.unpack s.top16))

end Sys2Proof.Machine
end

