-- ==== Sys2Proof/Machine/Unimplemented.lean ====
section
/-! DEFINITION. The unimplemented encodings (30_encoding.md R109, R117, R119, R121, R122): each ends the run by the fatal path of
60_exceptions.md R332. -/

namespace Sys2Proof.Machine

/-- `UnhandledInstruction(bytes, cs:ip)`, the fatal error of an unimplemented opcode or a refused form (30_encoding.md R109,
60_exceptions.md R331, R332). -/
def State.raiseInstruction (s : State) : State :=
  State.raise s s (.unhandledInstruction s.cur.bytes s.LAST_CS s.LAST_IP)

/-- `UnhandledGroupSubopcode(bytes, cs:ip)`, the fatal error of an unused group slot (30_encoding.md R109, 60_exceptions.md R331,
R332). -/
def State.raiseSubopcode (s : State) : State :=
  State.raise s s (.unhandledGroupSubopcode s.cur.bytes s.LAST_CS s.LAST_IP)

/-! ## The rows marked UNIMPL -/

/-- `UNIMPL 0F [POP CS]` (R109). -/
def execUnimpl0F (s : State) : Result := .next s.raiseInstruction

/-- `UNIMPL 27 [DAA]` (R109). -/
def execUnimpl27 (s : State) : Result := .next s.raiseInstruction

/-- `UNIMPL 2F [DAS]` (R109). -/
def execUnimpl2F (s : State) : Result := .next s.raiseInstruction

/-- `UNIMPL 37 [AAA]` (R109). -/
def execUnimpl37 (s : State) : Result := .next s.raiseInstruction

/-- `UNIMPL 3F [AAS]` (R109). -/
def execUnimpl3F (s : State) : Result := .next s.raiseInstruction

/-- `UNIMPL 60 [alias of 70 / 80186]` (R109). -/
def execUnimpl60 (s : State) : Result := .next s.raiseInstruction

/-- `UNIMPL 61 [alias of 71 / 80186]` (R109). -/
def execUnimpl61 (s : State) : Result := .next s.raiseInstruction

/-- `UNIMPL 62 [alias of 72 / 80186]` (R109). -/
def execUnimpl62 (s : State) : Result := .next s.raiseInstruction

/-- `UNIMPL 63 [alias of 73 / 80186]` (R109). -/
def execUnimpl63 (s : State) : Result := .next s.raiseInstruction

/-- `UNIMPL 64 [alias of 74 / 80186]` (R109). -/
def execUnimpl64 (s : State) : Result := .next s.raiseInstruction

/-- `UNIMPL 65 [alias of 75 / 80186]` (R109). -/
def execUnimpl65 (s : State) : Result := .next s.raiseInstruction

/-- `UNIMPL 66 [alias of 76 / 80186]` (R109). -/
def execUnimpl66 (s : State) : Result := .next s.raiseInstruction

/-- `UNIMPL 67 [alias of 77 / 80186]` (R109). -/
def execUnimpl67 (s : State) : Result := .next s.raiseInstruction

/-- `UNIMPL 68 [alias of 78 / 80186]` (R109). -/
def execUnimpl68 (s : State) : Result := .next s.raiseInstruction

/-- `UNIMPL 69 [alias of 79 / 80186]` (R109). -/
def execUnimpl69 (s : State) : Result := .next s.raiseInstruction

/-- `UNIMPL 6A [alias of 7A / 80186]` (R109). -/
def execUnimpl6A (s : State) : Result := .next s.raiseInstruction

/-- `UNIMPL 6B [alias of 7B / 80186]` (R109). -/
def execUnimpl6B (s : State) : Result := .next s.raiseInstruction

/-- `UNIMPL 6C [alias of 7C / 80186]` (R109). -/
def execUnimpl6C (s : State) : Result := .next s.raiseInstruction

/-- `UNIMPL 6D [alias of 7D / 80186]` (R109). -/
def execUnimpl6D (s : State) : Result := .next s.raiseInstruction

/-- `UNIMPL 6E [alias of 7E / 80186]` (R109). -/
def execUnimpl6E (s : State) : Result := .next s.raiseInstruction

/-- `UNIMPL 6F [alias of 7F / 80186]` (R109). -/
def execUnimpl6F (s : State) : Result := .next s.raiseInstruction

/-- `UNIMPL 8C with reg 4..7` (R109). -/
def execUnimpl8CReg4to7 (_mod : BitVec 2) (_reg : BitVec 2) (_rm : BitVec 3) (s : State) : Result := .next s.raiseInstruction

/-- `UNIMPL 8D with mod=3` (R109). -/
def execUnimpl8DMod3 (_reg : BitVec 3) (_rm : BitVec 3) (s : State) : Result := .next s.raiseInstruction

/-- `UNIMPL 8E with reg 4..7` (R109). -/
def execUnimpl8EReg4to7 (_mod : BitVec 2) (_reg : BitVec 2) (_rm : BitVec 3) (s : State) : Result := .next s.raiseInstruction

/-- `UNIMPL 8F /1` (R109). -/
def execUnimpl8FSub1 (_mod : BitVec 2) (_rm : BitVec 3) (s : State) : Result := .next s.raiseSubopcode

/-- `UNIMPL 8F /2` (R109). -/
def execUnimpl8FSub2 (_mod : BitVec 2) (_rm : BitVec 3) (s : State) : Result := .next s.raiseSubopcode

/-- `UNIMPL 8F /3` (R109). -/
def execUnimpl8FSub3 (_mod : BitVec 2) (_rm : BitVec 3) (s : State) : Result := .next s.raiseSubopcode

/-- `UNIMPL 8F /4` (R109). -/
def execUnimpl8FSub4 (_mod : BitVec 2) (_rm : BitVec 3) (s : State) : Result := .next s.raiseSubopcode

/-- `UNIMPL 8F /5` (R109). -/
def execUnimpl8FSub5 (_mod : BitVec 2) (_rm : BitVec 3) (s : State) : Result := .next s.raiseSubopcode

/-- `UNIMPL 8F /6` (R109). -/
def execUnimpl8FSub6 (_mod : BitVec 2) (_rm : BitVec 3) (s : State) : Result := .next s.raiseSubopcode

/-- `UNIMPL 8F /7` (R109). -/
def execUnimpl8FSub7 (_mod : BitVec 2) (_rm : BitVec 3) (s : State) : Result := .next s.raiseSubopcode

/-- `UNIMPL 98 [CBW]` (R109). -/
def execUnimpl98 (s : State) : Result := .next s.raiseInstruction

/-- `UNIMPL 99 [CWD]` (R109). -/
def execUnimpl99 (s : State) : Result := .next s.raiseInstruction

/-- `UNIMPL 9B [WAIT]` (R109). -/
def execUnimpl9B (s : State) : Result := .next s.raiseInstruction

/-- `UNIMPL 9E [SAHF]` (R109). -/
def execUnimpl9E (s : State) : Result := .next s.raiseInstruction

/-- `UNIMPL 9F [LAHF]` (R109). -/
def execUnimpl9F (s : State) : Result := .next s.raiseInstruction

/-- `UNIMPL C0 [alias of C2 / 80186 shift ib]` (R109). -/
def execUnimplC0 (s : State) : Result := .next s.raiseInstruction

/-- `UNIMPL C1 [alias of C3 / 80186 shift ib]` (R109). -/
def execUnimplC1 (s : State) : Result := .next s.raiseInstruction

/-- `UNIMPL C4 with mod=3` (R109). -/
def execUnimplC4Mod3 (_reg : BitVec 3) (_rm : BitVec 3) (s : State) : Result := .next s.raiseInstruction

/-- `UNIMPL C5 with mod=3` (R109). -/
def execUnimplC5Mod3 (_reg : BitVec 3) (_rm : BitVec 3) (s : State) : Result := .next s.raiseInstruction

/-- `UNIMPL C6 /1` (R109). -/
def execUnimplC6Sub1 (_mod : BitVec 2) (_rm : BitVec 3) (s : State) : Result := .next s.raiseSubopcode

/-- `UNIMPL C6 /2` (R109). -/
def execUnimplC6Sub2 (_mod : BitVec 2) (_rm : BitVec 3) (s : State) : Result := .next s.raiseSubopcode

/-- `UNIMPL C6 /3` (R109). -/
def execUnimplC6Sub3 (_mod : BitVec 2) (_rm : BitVec 3) (s : State) : Result := .next s.raiseSubopcode

/-- `UNIMPL C6 /4` (R109). -/
def execUnimplC6Sub4 (_mod : BitVec 2) (_rm : BitVec 3) (s : State) : Result := .next s.raiseSubopcode

/-- `UNIMPL C6 /5` (R109). -/
def execUnimplC6Sub5 (_mod : BitVec 2) (_rm : BitVec 3) (s : State) : Result := .next s.raiseSubopcode

/-- `UNIMPL C6 /6` (R109). -/
def execUnimplC6Sub6 (_mod : BitVec 2) (_rm : BitVec 3) (s : State) : Result := .next s.raiseSubopcode

/-- `UNIMPL C6 /7` (R109). -/
def execUnimplC6Sub7 (_mod : BitVec 2) (_rm : BitVec 3) (s : State) : Result := .next s.raiseSubopcode

/-- `UNIMPL C7 /1` (R109). -/
def execUnimplC7Sub1 (_mod : BitVec 2) (_rm : BitVec 3) (s : State) : Result := .next s.raiseSubopcode

/-- `UNIMPL C7 /2` (R109). -/
def execUnimplC7Sub2 (_mod : BitVec 2) (_rm : BitVec 3) (s : State) : Result := .next s.raiseSubopcode

/-- `UNIMPL C7 /3` (R109). -/
def execUnimplC7Sub3 (_mod : BitVec 2) (_rm : BitVec 3) (s : State) : Result := .next s.raiseSubopcode

/-- `UNIMPL C7 /4` (R109). -/
def execUnimplC7Sub4 (_mod : BitVec 2) (_rm : BitVec 3) (s : State) : Result := .next s.raiseSubopcode

/-- `UNIMPL C7 /5` (R109). -/
def execUnimplC7Sub5 (_mod : BitVec 2) (_rm : BitVec 3) (s : State) : Result := .next s.raiseSubopcode

/-- `UNIMPL C7 /6` (R109). -/
def execUnimplC7Sub6 (_mod : BitVec 2) (_rm : BitVec 3) (s : State) : Result := .next s.raiseSubopcode

/-- `UNIMPL C7 /7` (R109). -/
def execUnimplC7Sub7 (_mod : BitVec 2) (_rm : BitVec 3) (s : State) : Result := .next s.raiseSubopcode

/-- `UNIMPL C8 [alias of CA / ENTER]` (R109). -/
def execUnimplC8 (s : State) : Result := .next s.raiseInstruction

/-- `UNIMPL C9 [alias of CB / LEAVE]` (R109). -/
def execUnimplC9 (s : State) : Result := .next s.raiseInstruction

/-- `UNIMPL CE [INTO]` (R109). -/
def execUnimplCE (s : State) : Result := .next s.raiseInstruction

/-- `UNIMPL D0 /6` (R109). -/
def execUnimplD0Sub6 (_mod : BitVec 2) (_rm : BitVec 3) (s : State) : Result := .next s.raiseSubopcode

/-- `UNIMPL D1 /6` (R109). -/
def execUnimplD1Sub6 (_mod : BitVec 2) (_rm : BitVec 3) (s : State) : Result := .next s.raiseSubopcode

/-- `UNIMPL D2 /6` (R109). -/
def execUnimplD2Sub6 (_mod : BitVec 2) (_rm : BitVec 3) (s : State) : Result := .next s.raiseSubopcode

/-- `UNIMPL D3 /6` (R109). -/
def execUnimplD3Sub6 (_mod : BitVec 2) (_rm : BitVec 3) (s : State) : Result := .next s.raiseSubopcode

/-- `UNIMPL D4 [AAM]` (R109). -/
def execUnimplD4 (s : State) : Result := .next s.raiseInstruction

/-- `UNIMPL D5 [AAD]` (R109). -/
def execUnimplD5 (s : State) : Result := .next s.raiseInstruction

/-- `UNIMPL D6 [SALC]` (R109). -/
def execUnimplD6 (s : State) : Result := .next s.raiseInstruction

/-- `UNIMPL D7 [XLAT]` (R109). -/
def execUnimplD7 (s : State) : Result := .next s.raiseInstruction

/-- `UNIMPL D8 [ESC]` (R109). -/
def execUnimplD8 (s : State) : Result := .next s.raiseInstruction

/-- `UNIMPL D9 [ESC]` (R109). -/
def execUnimplD9 (s : State) : Result := .next s.raiseInstruction

/-- `UNIMPL DA [ESC]` (R109). -/
def execUnimplDA (s : State) : Result := .next s.raiseInstruction

/-- `UNIMPL DB [ESC]` (R109). -/
def execUnimplDB (s : State) : Result := .next s.raiseInstruction

/-- `UNIMPL DC [ESC]` (R109). -/
def execUnimplDC (s : State) : Result := .next s.raiseInstruction

/-- `UNIMPL DD [ESC]` (R109). -/
def execUnimplDD (s : State) : Result := .next s.raiseInstruction

/-- `UNIMPL DE [ESC]` (R109). -/
def execUnimplDE (s : State) : Result := .next s.raiseInstruction

/-- `UNIMPL DF [ESC]` (R109). -/
def execUnimplDF (s : State) : Result := .next s.raiseInstruction

/-- `UNIMPL E4 [IN ib]` (R109). -/
def execUnimplE4 (s : State) : Result := .next s.raiseInstruction

/-- `UNIMPL E5 [IN ib]` (R109). -/
def execUnimplE5 (s : State) : Result := .next s.raiseInstruction

/-- `UNIMPL E6 [OUT ib]` (R109). -/
def execUnimplE6 (s : State) : Result := .next s.raiseInstruction

/-- `UNIMPL E7 [OUT ib]` (R109). -/
def execUnimplE7 (s : State) : Result := .next s.raiseInstruction

/-- `UNIMPL EC [IN DX]` (R109). -/
def execUnimplEC (s : State) : Result := .next s.raiseInstruction

/-- `UNIMPL ED [IN DX]` (R109). -/
def execUnimplED (s : State) : Result := .next s.raiseInstruction

/-- `UNIMPL EE [OUT DX]` (R109). -/
def execUnimplEE (s : State) : Result := .next s.raiseInstruction

/-- `UNIMPL EF [OUT DX]` (R109). -/
def execUnimplEF (s : State) : Result := .next s.raiseInstruction

/-- `UNIMPL F0 [LOCK]` (R109). -/
def execUnimplF0 (s : State) : Result := .next s.raiseInstruction

/-- `UNIMPL F1 [undocumented]` (R109). -/
def execUnimplF1 (s : State) : Result := .next s.raiseInstruction

/-- `UNIMPL F4 [HLT]` (R109). -/
def execUnimplF4 (s : State) : Result := .next s.raiseInstruction

/-- `UNIMPL F6 /1` (R109). -/
def execUnimplF6Sub1 (_mod : BitVec 2) (_rm : BitVec 3) (s : State) : Result := .next s.raiseSubopcode

/-- `UNIMPL F6 /3` (R109). -/
def execUnimplF6Sub3 (_mod : BitVec 2) (_rm : BitVec 3) (s : State) : Result := .next s.raiseSubopcode

/-- `UNIMPL F6 /5` (R109). -/
def execUnimplF6Sub5 (_mod : BitVec 2) (_rm : BitVec 3) (s : State) : Result := .next s.raiseSubopcode

/-- `UNIMPL F6 /7` (R109). -/
def execUnimplF6Sub7 (_mod : BitVec 2) (_rm : BitVec 3) (s : State) : Result := .next s.raiseSubopcode

/-- `UNIMPL F7 /1` (R109). -/
def execUnimplF7Sub1 (_mod : BitVec 2) (_rm : BitVec 3) (s : State) : Result := .next s.raiseSubopcode

/-- `UNIMPL F7 /3` (R109). -/
def execUnimplF7Sub3 (_mod : BitVec 2) (_rm : BitVec 3) (s : State) : Result := .next s.raiseSubopcode

/-- `UNIMPL F7 /5` (R109). -/
def execUnimplF7Sub5 (_mod : BitVec 2) (_rm : BitVec 3) (s : State) : Result := .next s.raiseSubopcode

/-- `UNIMPL F7 /7` (R109). -/
def execUnimplF7Sub7 (_mod : BitVec 2) (_rm : BitVec 3) (s : State) : Result := .next s.raiseSubopcode

/-- `UNIMPL FE /2` (R109). -/
def execUnimplFESub2 (_mod : BitVec 2) (_rm : BitVec 3) (s : State) : Result := .next s.raiseSubopcode

/-- `UNIMPL FE /3` (R109). -/
def execUnimplFESub3 (_mod : BitVec 2) (_rm : BitVec 3) (s : State) : Result := .next s.raiseSubopcode

/-- `UNIMPL FE /4` (R109). -/
def execUnimplFESub4 (_mod : BitVec 2) (_rm : BitVec 3) (s : State) : Result := .next s.raiseSubopcode

/-- `UNIMPL FE /5` (R109). -/
def execUnimplFESub5 (_mod : BitVec 2) (_rm : BitVec 3) (s : State) : Result := .next s.raiseSubopcode

/-- `UNIMPL FE /6` (R109). -/
def execUnimplFESub6 (_mod : BitVec 2) (_rm : BitVec 3) (s : State) : Result := .next s.raiseSubopcode

/-- `UNIMPL FE /7` (R109). -/
def execUnimplFESub7 (_mod : BitVec 2) (_rm : BitVec 3) (s : State) : Result := .next s.raiseSubopcode

/-- `UNIMPL FF /7` (R109). -/
def execUnimplFFSub7 (_mod : BitVec 2) (_rm : BitVec 3) (s : State) : Result := .next s.raiseSubopcode

/-- `UNIMPL FF /3 with mod=3` (R109). -/
def execUnimplFFSub3Mod3 (_rm : BitVec 3) (s : State) : Result := .next s.raiseInstruction

/-- `UNIMPL FF /5 with mod=3` (R109). -/
def execUnimplFFSub5Mod3 (_rm : BitVec 3) (s : State) : Result := .next s.raiseInstruction

end Sys2Proof.Machine
end

