-- ==== Sys2Proof/Machine/Dispatch.lean ====
section
/-! DEFINITION. One arm per constructor of Instr: which meaning runs it. -/

namespace Sys2Proof.Machine

def exec (i : Instr) (s : State) : Host.Outcome State Fault Refusal :=
  match i with
  | .addRm8R8 rm r => Sys2Proof.Machine.execAddRm8R8 rm r s
  | .addRm16R16 rm r => Sys2Proof.Machine.execAddRm16R16 rm r s
  | .addR8Rm8 r rm => Sys2Proof.Machine.execAddR8Rm8 r rm s
  | .addR16Rm16 r rm => Sys2Proof.Machine.execAddR16Rm16 r rm s
  | .addAlIb ib => Sys2Proof.Machine.execAddAlIb ib s
  | .addAxIw iw => Sys2Proof.Machine.execAddAxIw iw s
  | .pushEs => Sys2Proof.Machine.execPushEs s
  | .popEs => Sys2Proof.Machine.execPopEs s
  | .orRm8R8 rm r => Sys2Proof.Machine.execOrRm8R8 rm r s
  | .orRm16R16 rm r => Sys2Proof.Machine.execOrRm16R16 rm r s
  | .orR8Rm8 r rm => Sys2Proof.Machine.execOrR8Rm8 r rm s
  | .orR16Rm16 r rm => Sys2Proof.Machine.execOrR16Rm16 r rm s
  | .orAlIb ib => Sys2Proof.Machine.execOrAlIb ib s
  | .orAxIw iw => Sys2Proof.Machine.execOrAxIw iw s
  | .pushCs => Sys2Proof.Machine.execPushCs s
  | .unimpl0F => Sys2Proof.Machine.execUnimpl0F s
  | .adcRm8R8 rm r => Sys2Proof.Machine.execAdcRm8R8 rm r s
  | .adcRm16R16 rm r => Sys2Proof.Machine.execAdcRm16R16 rm r s
  | .adcR8Rm8 r rm => Sys2Proof.Machine.execAdcR8Rm8 r rm s
  | .adcR16Rm16 r rm => Sys2Proof.Machine.execAdcR16Rm16 r rm s
  | .adcAlIb ib => Sys2Proof.Machine.execAdcAlIb ib s
  | .adcAxIw iw => Sys2Proof.Machine.execAdcAxIw iw s
  | .pushSs => Sys2Proof.Machine.execPushSs s
  | .popSs => Sys2Proof.Machine.execPopSs s
  | .sbbRm8R8 rm r => Sys2Proof.Machine.execSbbRm8R8 rm r s
  | .sbbRm16R16 rm r => Sys2Proof.Machine.execSbbRm16R16 rm r s
  | .sbbR8Rm8 r rm => Sys2Proof.Machine.execSbbR8Rm8 r rm s
  | .sbbR16Rm16 r rm => Sys2Proof.Machine.execSbbR16Rm16 r rm s
  | .sbbAlIb ib => Sys2Proof.Machine.execSbbAlIb ib s
  | .sbbAxIw iw => Sys2Proof.Machine.execSbbAxIw iw s
  | .pushDs => Sys2Proof.Machine.execPushDs s
  | .popDs => Sys2Proof.Machine.execPopDs s
  | .andRm8R8 rm r => Sys2Proof.Machine.execAndRm8R8 rm r s
  | .andRm16R16 rm r => Sys2Proof.Machine.execAndRm16R16 rm r s
  | .andR8Rm8 r rm => Sys2Proof.Machine.execAndR8Rm8 r rm s
  | .andR16Rm16 r rm => Sys2Proof.Machine.execAndR16Rm16 r rm s
  | .andAlIb ib => Sys2Proof.Machine.execAndAlIb ib s
  | .andAxIw iw => Sys2Proof.Machine.execAndAxIw iw s
  | .prefixEs => Sys2Proof.Machine.execPrefixEs s
  | .unimpl27 => Sys2Proof.Machine.execUnimpl27 s
  | .subRm8R8 rm r => Sys2Proof.Machine.execSubRm8R8 rm r s
  | .subRm16R16 rm r => Sys2Proof.Machine.execSubRm16R16 rm r s
  | .subR8Rm8 r rm => Sys2Proof.Machine.execSubR8Rm8 r rm s
  | .subR16Rm16 r rm => Sys2Proof.Machine.execSubR16Rm16 r rm s
  | .subAlIb ib => Sys2Proof.Machine.execSubAlIb ib s
  | .subAxIw iw => Sys2Proof.Machine.execSubAxIw iw s
  | .prefixCs => Sys2Proof.Machine.execPrefixCs s
  | .unimpl2F => Sys2Proof.Machine.execUnimpl2F s
  | .xorRm8R8 rm r => Sys2Proof.Machine.execXorRm8R8 rm r s
  | .xorRm16R16 rm r => Sys2Proof.Machine.execXorRm16R16 rm r s
  | .xorR8Rm8 r rm => Sys2Proof.Machine.execXorR8Rm8 r rm s
  | .xorR16Rm16 r rm => Sys2Proof.Machine.execXorR16Rm16 r rm s
  | .xorAlIb ib => Sys2Proof.Machine.execXorAlIb ib s
  | .xorAxIw iw => Sys2Proof.Machine.execXorAxIw iw s
  | .prefixSs => Sys2Proof.Machine.execPrefixSs s
  | .unimpl37 => Sys2Proof.Machine.execUnimpl37 s
  | .cmpRm8R8 rm r => Sys2Proof.Machine.execCmpRm8R8 rm r s
  | .cmpRm16R16 rm r => Sys2Proof.Machine.execCmpRm16R16 rm r s
  | .cmpR8Rm8 r rm => Sys2Proof.Machine.execCmpR8Rm8 r rm s
  | .cmpR16Rm16 r rm => Sys2Proof.Machine.execCmpR16Rm16 r rm s
  | .cmpAlIb ib => Sys2Proof.Machine.execCmpAlIb ib s
  | .cmpAxIw iw => Sys2Proof.Machine.execCmpAxIw iw s
  | .prefixDs => Sys2Proof.Machine.execPrefixDs s
  | .unimpl3F => Sys2Proof.Machine.execUnimpl3F s
  | .incR16 r => Sys2Proof.Machine.execIncR16 r s
  | .decR16 r => Sys2Proof.Machine.execDecR16 r s
  | .pushR16 r => Sys2Proof.Machine.execPushR16 r s
  | .popR16 r => Sys2Proof.Machine.execPopR16 r s
  | .unimpl60 => Sys2Proof.Machine.execUnimpl60 s
  | .unimpl61 => Sys2Proof.Machine.execUnimpl61 s
  | .unimpl62 => Sys2Proof.Machine.execUnimpl62 s
  | .unimpl63 => Sys2Proof.Machine.execUnimpl63 s
  | .unimpl64 => Sys2Proof.Machine.execUnimpl64 s
  | .unimpl65 => Sys2Proof.Machine.execUnimpl65 s
  | .unimpl66 => Sys2Proof.Machine.execUnimpl66 s
  | .unimpl67 => Sys2Proof.Machine.execUnimpl67 s
  | .unimpl68 => Sys2Proof.Machine.execUnimpl68 s
  | .unimpl69 => Sys2Proof.Machine.execUnimpl69 s
  | .unimpl6A => Sys2Proof.Machine.execUnimpl6A s
  | .unimpl6B => Sys2Proof.Machine.execUnimpl6B s
  | .unimpl6C => Sys2Proof.Machine.execUnimpl6C s
  | .unimpl6D => Sys2Proof.Machine.execUnimpl6D s
  | .unimpl6E => Sys2Proof.Machine.execUnimpl6E s
  | .unimpl6F => Sys2Proof.Machine.execUnimpl6F s
  | .jo rel => Sys2Proof.Machine.execJo rel s
  | .jno rel => Sys2Proof.Machine.execJno rel s
  | .jb rel => Sys2Proof.Machine.execJb rel s
  | .jnb rel => Sys2Proof.Machine.execJnb rel s
  | .jz rel => Sys2Proof.Machine.execJz rel s
  | .jnz rel => Sys2Proof.Machine.execJnz rel s
  | .jbe rel => Sys2Proof.Machine.execJbe rel s
  | .ja rel => Sys2Proof.Machine.execJa rel s
  | .js rel => Sys2Proof.Machine.execJs rel s
  | .jns rel => Sys2Proof.Machine.execJns rel s
  | .jpe rel => Sys2Proof.Machine.execJpe rel s
  | .jpo rel => Sys2Proof.Machine.execJpo rel s
  | .jl rel => Sys2Proof.Machine.execJl rel s
  | .jge rel => Sys2Proof.Machine.execJge rel s
  | .jle rel => Sys2Proof.Machine.execJle rel s
  | .jg rel => Sys2Proof.Machine.execJg rel s
  | .addRm8Ib rm ib => Sys2Proof.Machine.execAddRm8Ib rm ib s
  | .orRm8Ib rm ib => Sys2Proof.Machine.execOrRm8Ib rm ib s
  | .adcRm8Ib rm ib => Sys2Proof.Machine.execAdcRm8Ib rm ib s
  | .sbbRm8Ib rm ib => Sys2Proof.Machine.execSbbRm8Ib rm ib s
  | .andRm8Ib rm ib => Sys2Proof.Machine.execAndRm8Ib rm ib s
  | .subRm8Ib rm ib => Sys2Proof.Machine.execSubRm8Ib rm ib s
  | .xorRm8Ib rm ib => Sys2Proof.Machine.execXorRm8Ib rm ib s
  | .cmpRm8Ib rm ib => Sys2Proof.Machine.execCmpRm8Ib rm ib s
  | .addRm16Iw rm iw => Sys2Proof.Machine.execAddRm16Iw rm iw s
  | .orRm16Iw rm iw => Sys2Proof.Machine.execOrRm16Iw rm iw s
  | .adcRm16Iw rm iw => Sys2Proof.Machine.execAdcRm16Iw rm iw s
  | .sbbRm16Iw rm iw => Sys2Proof.Machine.execSbbRm16Iw rm iw s
  | .andRm16Iw rm iw => Sys2Proof.Machine.execAndRm16Iw rm iw s
  | .subRm16Iw rm iw => Sys2Proof.Machine.execSubRm16Iw rm iw s
  | .xorRm16Iw rm iw => Sys2Proof.Machine.execXorRm16Iw rm iw s
  | .cmpRm16Iw rm iw => Sys2Proof.Machine.execCmpRm16Iw rm iw s
  | .addRm8Ib82 rm ib => Sys2Proof.Machine.execAddRm8Ib82 rm ib s
  | .orRm8Ib82 rm ib => Sys2Proof.Machine.execOrRm8Ib82 rm ib s
  | .adcRm8Ib82 rm ib => Sys2Proof.Machine.execAdcRm8Ib82 rm ib s
  | .sbbRm8Ib82 rm ib => Sys2Proof.Machine.execSbbRm8Ib82 rm ib s
  | .andRm8Ib82 rm ib => Sys2Proof.Machine.execAndRm8Ib82 rm ib s
  | .subRm8Ib82 rm ib => Sys2Proof.Machine.execSubRm8Ib82 rm ib s
  | .xorRm8Ib82 rm ib => Sys2Proof.Machine.execXorRm8Ib82 rm ib s
  | .cmpRm8Ib82 rm ib => Sys2Proof.Machine.execCmpRm8Ib82 rm ib s
  | .addRm16Sext rm ib => Sys2Proof.Machine.execAddRm16Sext rm ib s
  | .orRm16Sext rm ib => Sys2Proof.Machine.execOrRm16Sext rm ib s
  | .adcRm16Sext rm ib => Sys2Proof.Machine.execAdcRm16Sext rm ib s
  | .sbbRm16Sext rm ib => Sys2Proof.Machine.execSbbRm16Sext rm ib s
  | .andRm16Sext rm ib => Sys2Proof.Machine.execAndRm16Sext rm ib s
  | .subRm16Sext rm ib => Sys2Proof.Machine.execSubRm16Sext rm ib s
  | .xorRm16Sext rm ib => Sys2Proof.Machine.execXorRm16Sext rm ib s
  | .cmpRm16Sext rm ib => Sys2Proof.Machine.execCmpRm16Sext rm ib s
  | .testRm8R8 rm r => Sys2Proof.Machine.execTestRm8R8 rm r s
  | .testRm16R16 rm r => Sys2Proof.Machine.execTestRm16R16 rm r s
  | .xchgRm8R8 rm r => Sys2Proof.Machine.execXchgRm8R8 rm r s
  | .xchgRm16R16 rm r => Sys2Proof.Machine.execXchgRm16R16 rm r s
  | .movRm8R8 rm r => Sys2Proof.Machine.execMovRm8R8 rm r s
  | .movRm16R16 rm r => Sys2Proof.Machine.execMovRm16R16 rm r s
  | .movR8Rm8 r rm => Sys2Proof.Machine.execMovR8Rm8 r rm s
  | .movR16Rm16 r rm => Sys2Proof.Machine.execMovR16Rm16 r rm s
  | .movRm16Sreg rm sr => Sys2Proof.Machine.execMovRm16Sreg rm sr s
  | .unimpl8CReg4to7 mod reg rm => Sys2Proof.Machine.execUnimpl8CReg4to7 mod reg rm s
  | .leaR16M r m => Sys2Proof.Machine.execLeaR16M r m s
  | .unimpl8DMod3 reg rm => Sys2Proof.Machine.execUnimpl8DMod3 reg rm s
  | .movSregRm16 sr rm => Sys2Proof.Machine.execMovSregRm16 sr rm s
  | .unimpl8EReg4to7 mod reg rm => Sys2Proof.Machine.execUnimpl8EReg4to7 mod reg rm s
  | .popRm16 rm => Sys2Proof.Machine.execPopRm16 rm s
  | .unimpl8FSub1 mod rm => Sys2Proof.Machine.execUnimpl8FSub1 mod rm s
  | .unimpl8FSub2 mod rm => Sys2Proof.Machine.execUnimpl8FSub2 mod rm s
  | .unimpl8FSub3 mod rm => Sys2Proof.Machine.execUnimpl8FSub3 mod rm s
  | .unimpl8FSub4 mod rm => Sys2Proof.Machine.execUnimpl8FSub4 mod rm s
  | .unimpl8FSub5 mod rm => Sys2Proof.Machine.execUnimpl8FSub5 mod rm s
  | .unimpl8FSub6 mod rm => Sys2Proof.Machine.execUnimpl8FSub6 mod rm s
  | .unimpl8FSub7 mod rm => Sys2Proof.Machine.execUnimpl8FSub7 mod rm s
  | .xchgAxR16 r => Sys2Proof.Machine.execXchgAxR16 r s
  | .unimpl98 => Sys2Proof.Machine.execUnimpl98 s
  | .unimpl99 => Sys2Proof.Machine.execUnimpl99 s
  | .callPtr off seg => Sys2Proof.Machine.execCallPtr off seg s
  | .unimpl9B => Sys2Proof.Machine.execUnimpl9B s
  | .pushf => Sys2Proof.Machine.execPushf s
  | .popf => Sys2Proof.Machine.execPopf s
  | .unimpl9E => Sys2Proof.Machine.execUnimpl9E s
  | .unimpl9F => Sys2Proof.Machine.execUnimpl9F s
  | .movAlMoffs moffs => Sys2Proof.Machine.execMovAlMoffs moffs s
  | .movAxMoffs moffs => Sys2Proof.Machine.execMovAxMoffs moffs s
  | .movMoffsAl moffs => Sys2Proof.Machine.execMovMoffsAl moffs s
  | .movMoffsAx moffs => Sys2Proof.Machine.execMovMoffsAx moffs s
  | .movsb => Sys2Proof.Machine.execMovsb s
  | .movsw => Sys2Proof.Machine.execMovsw s
  | .cmpsb => Sys2Proof.Machine.execCmpsb s
  | .cmpsw => Sys2Proof.Machine.execCmpsw s
  | .testAlIb ib => Sys2Proof.Machine.execTestAlIb ib s
  | .testAxIw iw => Sys2Proof.Machine.execTestAxIw iw s
  | .stosb => Sys2Proof.Machine.execStosb s
  | .stosw => Sys2Proof.Machine.execStosw s
  | .lodsb => Sys2Proof.Machine.execLodsb s
  | .lodsw => Sys2Proof.Machine.execLodsw s
  | .scasb => Sys2Proof.Machine.execScasb s
  | .scasw => Sys2Proof.Machine.execScasw s
  | .movR8Ib r ib => Sys2Proof.Machine.execMovR8Ib r ib s
  | .movR16Iw r iw => Sys2Proof.Machine.execMovR16Iw r iw s
  | .unimplC0 => Sys2Proof.Machine.execUnimplC0 s
  | .unimplC1 => Sys2Proof.Machine.execUnimplC1 s
  | .retIw iw => Sys2Proof.Machine.execRetIw iw s
  | .ret => Sys2Proof.Machine.execRet s
  | .lesR16M r m => Sys2Proof.Machine.execLesR16M r m s
  | .unimplC4Mod3 reg rm => Sys2Proof.Machine.execUnimplC4Mod3 reg rm s
  | .ldsR16M r m => Sys2Proof.Machine.execLdsR16M r m s
  | .unimplC5Mod3 reg rm => Sys2Proof.Machine.execUnimplC5Mod3 reg rm s
  | .movRm8Ib rm ib => Sys2Proof.Machine.execMovRm8Ib rm ib s
  | .unimplC6Sub1 mod rm => Sys2Proof.Machine.execUnimplC6Sub1 mod rm s
  | .unimplC6Sub2 mod rm => Sys2Proof.Machine.execUnimplC6Sub2 mod rm s
  | .unimplC6Sub3 mod rm => Sys2Proof.Machine.execUnimplC6Sub3 mod rm s
  | .unimplC6Sub4 mod rm => Sys2Proof.Machine.execUnimplC6Sub4 mod rm s
  | .unimplC6Sub5 mod rm => Sys2Proof.Machine.execUnimplC6Sub5 mod rm s
  | .unimplC6Sub6 mod rm => Sys2Proof.Machine.execUnimplC6Sub6 mod rm s
  | .unimplC6Sub7 mod rm => Sys2Proof.Machine.execUnimplC6Sub7 mod rm s
  | .movRm16Iw rm iw => Sys2Proof.Machine.execMovRm16Iw rm iw s
  | .unimplC7Sub1 mod rm => Sys2Proof.Machine.execUnimplC7Sub1 mod rm s
  | .unimplC7Sub2 mod rm => Sys2Proof.Machine.execUnimplC7Sub2 mod rm s
  | .unimplC7Sub3 mod rm => Sys2Proof.Machine.execUnimplC7Sub3 mod rm s
  | .unimplC7Sub4 mod rm => Sys2Proof.Machine.execUnimplC7Sub4 mod rm s
  | .unimplC7Sub5 mod rm => Sys2Proof.Machine.execUnimplC7Sub5 mod rm s
  | .unimplC7Sub6 mod rm => Sys2Proof.Machine.execUnimplC7Sub6 mod rm s
  | .unimplC7Sub7 mod rm => Sys2Proof.Machine.execUnimplC7Sub7 mod rm s
  | .unimplC8 => Sys2Proof.Machine.execUnimplC8 s
  | .unimplC9 => Sys2Proof.Machine.execUnimplC9 s
  | .retfIw iw => Sys2Proof.Machine.execRetfIw iw s
  | .retf => Sys2Proof.Machine.execRetf s
  | .int3 => Sys2Proof.Machine.execInt3 s
  | .intIb ib => Sys2Proof.Machine.execIntIb ib s
  | .unimplCE => Sys2Proof.Machine.execUnimplCE s
  | .iret => Sys2Proof.Machine.execIret s
  | .rolRm8One rm => Sys2Proof.Machine.execRolRm8One rm s
  | .rorRm8One rm => Sys2Proof.Machine.execRorRm8One rm s
  | .rclRm8One rm => Sys2Proof.Machine.execRclRm8One rm s
  | .rcrRm8One rm => Sys2Proof.Machine.execRcrRm8One rm s
  | .shlRm8One rm => Sys2Proof.Machine.execShlRm8One rm s
  | .shrRm8One rm => Sys2Proof.Machine.execShrRm8One rm s
  | .unimplD0Sub6 mod rm => Sys2Proof.Machine.execUnimplD0Sub6 mod rm s
  | .sarRm8One rm => Sys2Proof.Machine.execSarRm8One rm s
  | .rolRm16One rm => Sys2Proof.Machine.execRolRm16One rm s
  | .rorRm16One rm => Sys2Proof.Machine.execRorRm16One rm s
  | .rclRm16One rm => Sys2Proof.Machine.execRclRm16One rm s
  | .rcrRm16One rm => Sys2Proof.Machine.execRcrRm16One rm s
  | .shlRm16One rm => Sys2Proof.Machine.execShlRm16One rm s
  | .shrRm16One rm => Sys2Proof.Machine.execShrRm16One rm s
  | .unimplD1Sub6 mod rm => Sys2Proof.Machine.execUnimplD1Sub6 mod rm s
  | .sarRm16One rm => Sys2Proof.Machine.execSarRm16One rm s
  | .rolRm8Cl rm => Sys2Proof.Machine.execRolRm8Cl rm s
  | .rorRm8Cl rm => Sys2Proof.Machine.execRorRm8Cl rm s
  | .rclRm8Cl rm => Sys2Proof.Machine.execRclRm8Cl rm s
  | .rcrRm8Cl rm => Sys2Proof.Machine.execRcrRm8Cl rm s
  | .shlRm8Cl rm => Sys2Proof.Machine.execShlRm8Cl rm s
  | .shrRm8Cl rm => Sys2Proof.Machine.execShrRm8Cl rm s
  | .unimplD2Sub6 mod rm => Sys2Proof.Machine.execUnimplD2Sub6 mod rm s
  | .sarRm8Cl rm => Sys2Proof.Machine.execSarRm8Cl rm s
  | .rolRm16Cl rm => Sys2Proof.Machine.execRolRm16Cl rm s
  | .rorRm16Cl rm => Sys2Proof.Machine.execRorRm16Cl rm s
  | .rclRm16Cl rm => Sys2Proof.Machine.execRclRm16Cl rm s
  | .rcrRm16Cl rm => Sys2Proof.Machine.execRcrRm16Cl rm s
  | .shlRm16Cl rm => Sys2Proof.Machine.execShlRm16Cl rm s
  | .shrRm16Cl rm => Sys2Proof.Machine.execShrRm16Cl rm s
  | .unimplD3Sub6 mod rm => Sys2Proof.Machine.execUnimplD3Sub6 mod rm s
  | .sarRm16Cl rm => Sys2Proof.Machine.execSarRm16Cl rm s
  | .unimplD4 => Sys2Proof.Machine.execUnimplD4 s
  | .unimplD5 => Sys2Proof.Machine.execUnimplD5 s
  | .unimplD6 => Sys2Proof.Machine.execUnimplD6 s
  | .unimplD7 => Sys2Proof.Machine.execUnimplD7 s
  | .unimplD8 => Sys2Proof.Machine.execUnimplD8 s
  | .unimplD9 => Sys2Proof.Machine.execUnimplD9 s
  | .unimplDA => Sys2Proof.Machine.execUnimplDA s
  | .unimplDB => Sys2Proof.Machine.execUnimplDB s
  | .unimplDC => Sys2Proof.Machine.execUnimplDC s
  | .unimplDD => Sys2Proof.Machine.execUnimplDD s
  | .unimplDE => Sys2Proof.Machine.execUnimplDE s
  | .unimplDF => Sys2Proof.Machine.execUnimplDF s
  | .loopne rel => Sys2Proof.Machine.execLoopne rel s
  | .loope rel => Sys2Proof.Machine.execLoope rel s
  | .loop rel => Sys2Proof.Machine.execLoop rel s
  | .jcxz rel => Sys2Proof.Machine.execJcxz rel s
  | .unimplE4 => Sys2Proof.Machine.execUnimplE4 s
  | .unimplE5 => Sys2Proof.Machine.execUnimplE5 s
  | .unimplE6 => Sys2Proof.Machine.execUnimplE6 s
  | .unimplE7 => Sys2Proof.Machine.execUnimplE7 s
  | .callRel16 rel => Sys2Proof.Machine.execCallRel16 rel s
  | .jmpRel16 rel => Sys2Proof.Machine.execJmpRel16 rel s
  | .jmpPtr off seg => Sys2Proof.Machine.execJmpPtr off seg s
  | .jmpRel8 rel => Sys2Proof.Machine.execJmpRel8 rel s
  | .unimplEC => Sys2Proof.Machine.execUnimplEC s
  | .unimplED => Sys2Proof.Machine.execUnimplED s
  | .unimplEE => Sys2Proof.Machine.execUnimplEE s
  | .unimplEF => Sys2Proof.Machine.execUnimplEF s
  | .unimplF0 => Sys2Proof.Machine.execUnimplF0 s
  | .unimplF1 => Sys2Proof.Machine.execUnimplF1 s
  | .prefixRepnz => Sys2Proof.Machine.execPrefixRepnz s
  | .prefixRep => Sys2Proof.Machine.execPrefixRep s
  | .unimplF4 => Sys2Proof.Machine.execUnimplF4 s
  | .cmc => Sys2Proof.Machine.execCmc s
  | .testRm8Ib rm ib => Sys2Proof.Machine.execTestRm8Ib rm ib s
  | .unimplF6Sub1 mod rm => Sys2Proof.Machine.execUnimplF6Sub1 mod rm s
  | .notRm8 rm => Sys2Proof.Machine.execNotRm8 rm s
  | .unimplF6Sub3 mod rm => Sys2Proof.Machine.execUnimplF6Sub3 mod rm s
  | .mulRm8 rm => Sys2Proof.Machine.execMulRm8 rm s
  | .unimplF6Sub5 mod rm => Sys2Proof.Machine.execUnimplF6Sub5 mod rm s
  | .divRm8 rm => Sys2Proof.Machine.execDivRm8 rm s
  | .unimplF6Sub7 mod rm => Sys2Proof.Machine.execUnimplF6Sub7 mod rm s
  | .testRm16Iw rm iw => Sys2Proof.Machine.execTestRm16Iw rm iw s
  | .unimplF7Sub1 mod rm => Sys2Proof.Machine.execUnimplF7Sub1 mod rm s
  | .notRm16 rm => Sys2Proof.Machine.execNotRm16 rm s
  | .unimplF7Sub3 mod rm => Sys2Proof.Machine.execUnimplF7Sub3 mod rm s
  | .mulRm16 rm => Sys2Proof.Machine.execMulRm16 rm s
  | .unimplF7Sub5 mod rm => Sys2Proof.Machine.execUnimplF7Sub5 mod rm s
  | .divRm16 rm => Sys2Proof.Machine.execDivRm16 rm s
  | .unimplF7Sub7 mod rm => Sys2Proof.Machine.execUnimplF7Sub7 mod rm s
  | .clc => Sys2Proof.Machine.execClc s
  | .stc => Sys2Proof.Machine.execStc s
  | .cli => Sys2Proof.Machine.execCli s
  | .sti => Sys2Proof.Machine.execSti s
  | .cld => Sys2Proof.Machine.execCld s
  | .std => Sys2Proof.Machine.execStd s
  | .incRm8 rm => Sys2Proof.Machine.execIncRm8 rm s
  | .decRm8 rm => Sys2Proof.Machine.execDecRm8 rm s
  | .unimplFESub2 mod rm => Sys2Proof.Machine.execUnimplFESub2 mod rm s
  | .unimplFESub3 mod rm => Sys2Proof.Machine.execUnimplFESub3 mod rm s
  | .unimplFESub4 mod rm => Sys2Proof.Machine.execUnimplFESub4 mod rm s
  | .unimplFESub5 mod rm => Sys2Proof.Machine.execUnimplFESub5 mod rm s
  | .unimplFESub6 mod rm => Sys2Proof.Machine.execUnimplFESub6 mod rm s
  | .unimplFESub7 mod rm => Sys2Proof.Machine.execUnimplFESub7 mod rm s
  | .incRm16 rm => Sys2Proof.Machine.execIncRm16 rm s
  | .decRm16 rm => Sys2Proof.Machine.execDecRm16 rm s
  | .callRm16 rm => Sys2Proof.Machine.execCallRm16 rm s
  | .callM16 m => Sys2Proof.Machine.execCallM16 m s
  | .jmpRm16 rm => Sys2Proof.Machine.execJmpRm16 rm s
  | .jmpM16 m => Sys2Proof.Machine.execJmpM16 m s
  | .pushRm16 rm => Sys2Proof.Machine.execPushRm16 rm s
  | .unimplFFSub7 mod rm => Sys2Proof.Machine.execUnimplFFSub7 mod rm s
  | .unimplFFSub3Mod3 rm => Sys2Proof.Machine.execUnimplFFSub3Mod3 rm s
  | .unimplFFSub5Mod3 rm => Sys2Proof.Machine.execUnimplFFSub5Mod3 rm s

end Sys2Proof.Machine
end

