-- ==== Sys2Proof/Machine/Tick.lean ====
section
/-! DEFINITION. One tick of the CPU thread (60_exceptions.md R371). -/

namespace Sys2Proof.Machine

/-- `LAST_CS:LAST_IP <- CS:IP` (60_exceptions.md R371, 10_state.md R40). -/
def State.captureLast (s : State) : State := { s with LAST_CS := s.regs.CS, LAST_IP := s.regs.IP }

/-- The decoded instruction becomes the one being executed, and IP moves past all its bytes (10_state.md R26, 30_encoding.md R110). -/
def State.beginInstr (s : State) (bytes : List Byte) : State :=
  ({ s with cur := { bytes := bytes, seg := none, rep := .none } } : State).setIP
    (s.regs.IP + BitVec.ofNat 16 bytes.length)

/-- The instruction is over, unless a pause has left its repetition loop to be resumed (10_state.md R46, 60_exceptions.md R374). -/
def State.endInstr (s : State) : State := if s.pending.isSome then s else { s with cur := InFlight.empty }

/-- The prefixes of an instruction, then the instruction (30_encoding.md R93). -/
def execAll : List Instr → State → Result
  | [], s => .next s
  | i :: is, s =>
    match exec i s with
    | .next t => execAll is t
    | .fault r => .fault r
    | .refused r => .refused r

/-- What comes after the execute step. -/
def finishTick : Result → Result
  | .next s => .next s.endInstr
  | .fault r => .fault r
  | .refused r => .refused r

/-- `Tick()` of 60_exceptions.md R371. -/
def tick (s : State) : Result :=
  let s0 := s.captureLast
  match s0.fetch with
  | none => .fault .decoderNeverEnds
  | some f => finishTick (execAll (f.prefixes ++ [f.instr]) (s0.beginInstr f.bytes))

/-- A repetition loop that a pause interrupted goes on where it stood: it is not decoded again (43_string.md R216, 60_exceptions.md
R374). -/
def resume (i : Instr) (s : State) : Result := finishTick (exec i { s with pending := none })

/-- What a running CPU thread does after a suspension point (60_exceptions.md R372, R374). -/
def runOn (s : State) : Result :=
  match s.pending with
  | some i => resume i s
  | none => tick s

/-- One move of the machine (60_exceptions.md R372, R374). Stopped: the host's calls are taken, one of which may start a run. Else: a
suspension point, and if the machine is Running after it, a tick. -/
def move (s : State) : Result :=
  match s.run_state with
  | .stopped => .next s.deliver
  | _ =>
    let t := s.suspend
    match t.run_state with
    | .running => runOn t
    | _ => .next t

/-- A word of spec/opcode_table.json as the next instruction: its bytes at CS:IP, and the machine Running, its image loaded, with nothing
from the host before the fetch (log entry 25). -/
def State.placeWord (s : State) (nbits w : Nat) : State :=
  { s with
    mem := s.mem.writeBytes s.regs.CS s.regs.IP (tableBytes nbits w 0 maxInstrBytes)
    run_state := .running
    requested_state := .running
    booted := true
    pending := none
    inbox := [] :: s.inbox }

end Sys2Proof.Machine
end

