-- ==== Sys2Proof/Safety.lean ====
section
/-! DEFINITION. What a safe run is, and the words the statements are written in: the invariant of the machine, frames (what stays
unchanged), the instructions in families, and the arithmetic of the spec over numbers. -/

namespace Sys2Proof

/-! ## Words for the statements: parts of the registers, memory operands, refused encodings, prefixes -/

/-- The smallest parts of the register file that instructions write. -/
inductive RegPart where
  | byte (r : Reg8)
  | sp | bp | si | di | ip
  | seg (r : SReg)
deriving DecidableEq, Repr

/-- The parts a word register is made of. -/
def Reg16.parts : Reg16 → List RegPart
  | .ax => [.byte .al, .byte .ah]
  | .cx => [.byte .cl, .byte .ch]
  | .dx => [.byte .dl, .byte .dh]
  | .bx => [.byte .bl, .byte .bh]
  | .sp => [.sp]
  | .bp => [.bp]
  | .si => [.si]
  | .di => [.di]

/-- The register parts a destination `r/m8` stands for. -/
def Rm8.parts : Rm8 → List RegPart
  | .reg r => [.byte r]
  | .mem _ => []

/-- The register parts a destination `r/m16` stands for. -/
def Rm16.parts : Rm16 → List RegPart
  | .reg r => Reg16.parts r
  | .mem _ => []

/-- The registers a base expression names (30_encoding.md R96). -/
def Base.registers : Base → List Reg16
  | .bxSi => [.bx, .si]
  | .bxDi => [.bx, .di]
  | .bpSi => [.bp, .si]
  | .bpDi => [.bp, .di]
  | .si => [.si]
  | .di => [.di]
  | .bp => [.bp]
  | .bx => [.bx]

/-- A displacement as the signed number it is (30_encoding.md R106). -/
def Disp.signed : Disp → Int
  | .none => 0
  | .d8 d => d.toInt
  | .d16 d => d.toInt

/-- Which error a refused encoding raises (30_encoding.md R109). -/
inductive DecodeErrorKind where
  | instruction
  | subopcode
deriving DecidableEq, Repr

/-- The rows marked UNIMPL: the primary opcodes of 30_encoding.md R119 and the refused forms of R121 and R122 raise
`UnhandledInstruction`, the unused slots of R117 `UnhandledGroupSubopcode`; every other row decodes to something that runs. -/
def Instr.decodeError? : Instr → Option DecodeErrorKind
  | .unimpl8CReg4to7 _ _ _ => some .instruction
  | .unimpl8DMod3 _ _ => some .instruction
  | .unimpl8EReg4to7 _ _ _ => some .instruction
  | .unimpl8FSub1 _ _ => some .subopcode
  | .unimpl8FSub2 _ _ => some .subopcode
  | .unimpl8FSub3 _ _ => some .subopcode
  | .unimpl8FSub4 _ _ => some .subopcode
  | .unimpl8FSub5 _ _ => some .subopcode
  | .unimpl8FSub6 _ _ => some .subopcode
  | .unimpl8FSub7 _ _ => some .subopcode
  | .unimplC4Mod3 _ _ => some .instruction
  | .unimplC5Mod3 _ _ => some .instruction
  | .unimplC6Sub1 _ _ => some .subopcode
  | .unimplC6Sub2 _ _ => some .subopcode
  | .unimplC6Sub3 _ _ => some .subopcode
  | .unimplC6Sub4 _ _ => some .subopcode
  | .unimplC6Sub5 _ _ => some .subopcode
  | .unimplC6Sub6 _ _ => some .subopcode
  | .unimplC6Sub7 _ _ => some .subopcode
  | .unimplC7Sub1 _ _ => some .subopcode
  | .unimplC7Sub2 _ _ => some .subopcode
  | .unimplC7Sub3 _ _ => some .subopcode
  | .unimplC7Sub4 _ _ => some .subopcode
  | .unimplC7Sub5 _ _ => some .subopcode
  | .unimplC7Sub6 _ _ => some .subopcode
  | .unimplC7Sub7 _ _ => some .subopcode
  | .unimplD0Sub6 _ _ => some .subopcode
  | .unimplD1Sub6 _ _ => some .subopcode
  | .unimplD2Sub6 _ _ => some .subopcode
  | .unimplD3Sub6 _ _ => some .subopcode
  | .unimplF6Sub1 _ _ => some .subopcode
  | .unimplF6Sub3 _ _ => some .subopcode
  | .unimplF6Sub5 _ _ => some .subopcode
  | .unimplF6Sub7 _ _ => some .subopcode
  | .unimplF7Sub1 _ _ => some .subopcode
  | .unimplF7Sub3 _ _ => some .subopcode
  | .unimplF7Sub5 _ _ => some .subopcode
  | .unimplF7Sub7 _ _ => some .subopcode
  | .unimplFESub2 _ _ => some .subopcode
  | .unimplFESub3 _ _ => some .subopcode
  | .unimplFESub4 _ _ => some .subopcode
  | .unimplFESub5 _ _ => some .subopcode
  | .unimplFESub6 _ _ => some .subopcode
  | .unimplFESub7 _ _ => some .subopcode
  | .unimplFFSub7 _ _ => some .subopcode
  | .unimplFFSub3Mod3 _ => some .instruction
  | .unimplFFSub5Mod3 _ => some .instruction
  | .unimpl0F => some .instruction
  | .unimpl27 => some .instruction
  | .unimpl2F => some .instruction
  | .unimpl37 => some .instruction
  | .unimpl3F => some .instruction
  | .unimpl60 => some .instruction
  | .unimpl61 => some .instruction
  | .unimpl62 => some .instruction
  | .unimpl63 => some .instruction
  | .unimpl64 => some .instruction
  | .unimpl65 => some .instruction
  | .unimpl66 => some .instruction
  | .unimpl67 => some .instruction
  | .unimpl68 => some .instruction
  | .unimpl69 => some .instruction
  | .unimpl6A => some .instruction
  | .unimpl6B => some .instruction
  | .unimpl6C => some .instruction
  | .unimpl6D => some .instruction
  | .unimpl6E => some .instruction
  | .unimpl6F => some .instruction
  | .unimpl98 => some .instruction
  | .unimpl99 => some .instruction
  | .unimpl9B => some .instruction
  | .unimpl9E => some .instruction
  | .unimpl9F => some .instruction
  | .unimplC0 => some .instruction
  | .unimplC1 => some .instruction
  | .unimplC8 => some .instruction
  | .unimplC9 => some .instruction
  | .unimplCE => some .instruction
  | .unimplD4 => some .instruction
  | .unimplD5 => some .instruction
  | .unimplD6 => some .instruction
  | .unimplD7 => some .instruction
  | .unimplD8 => some .instruction
  | .unimplD9 => some .instruction
  | .unimplDA => some .instruction
  | .unimplDB => some .instruction
  | .unimplDC => some .instruction
  | .unimplDD => some .instruction
  | .unimplDE => some .instruction
  | .unimplDF => some .instruction
  | .unimplE4 => some .instruction
  | .unimplE5 => some .instruction
  | .unimplE6 => some .instruction
  | .unimplE7 => some .instruction
  | .unimplEC => some .instruction
  | .unimplED => some .instruction
  | .unimplEE => some .instruction
  | .unimplEF => some .instruction
  | .unimplF0 => some .instruction
  | .unimplF1 => some .instruction
  | .unimplF4 => some .instruction
  | _ => none

/-- The fatal error of a refused encoding, with its payload (30_encoding.md R109). -/
def DecodeErrorKind.error (k : DecodeErrorKind) (bytes : List Byte) (cs ip : Word) : Machine.FatalError :=
  match k with
  | .instruction => .unhandledInstruction bytes cs ip
  | .subopcode => .unhandledGroupSubopcode bytes cs ip

/-- The six prefix bytes of 30_encoding.md R91 and R92. -/
def prefixBytes : List Byte := [0x26, 0x2E, 0x36, 0x3E, 0xF2, 0xF3]

/-- The 54 unimplemented primary opcodes of 30_encoding.md R119. -/
def unimplementedBytes : List Byte :=
  [0x0F, 0x27, 0x2F, 0x37, 0x3F, 0x60, 0x61, 0x62, 0x63, 0x64, 0x65, 0x66, 0x67, 0x68, 0x69, 0x6A, 0x6B, 0x6C, 0x6D, 0x6E, 0x6F,
    0x98, 0x99, 0x9B, 0x9E, 0x9F, 0xC0, 0xC1, 0xC8, 0xC9, 0xCE, 0xD4, 0xD5, 0xD6, 0xD7, 0xD8, 0xD9, 0xDA, 0xDB, 0xDC, 0xDD, 0xDE,
    0xDF, 0xE4, 0xE5, 0xE6, 0xE7, 0xEC, 0xED, 0xEE, 0xEF, 0xF0, 0xF1, 0xF4]

/-- The segment a prefix row sets. -/
def Instr.segmentOf? : Instr → Option SReg
  | .prefixEs => some .es
  | .prefixCs => some .cs
  | .prefixSs => some .ss
  | .prefixDs => some .ds
  | _ => none

/-- The repetition a prefix row sets. -/
def Instr.repetitionOf? : Instr → Option Machine.RepPrefix
  | .prefixRep => some .rep
  | .prefixRepnz => some .repNZ
  | _ => none

end Sys2Proof

namespace Sys2Proof.Machine

/-! ## The invariant and safe outcomes -/

/-- The ten string rows (43_string.md R210). -/
def isStringInstr (i : Instr) : Bool :=
  match i with
  | .movsb | .movsw | .cmpsb | .cmpsw | .stosb | .stosw | .lodsb | .lodsw | .scasb | .scasw => true
  | _ => false

/-- What holds between steps: memory in its canonical form; a loop waits to be resumed only while Paused, and it is the loop of a
repeated string instruction; otherwise no instruction is in flight (10_state.md R46); while Stopped nothing is requested; the core is
Stopped until a boot entry has loaded an image (10_state.md R48); callback handles are fresh (60_exceptions.md R376). -/
structure Inv (s : State) : Prop where
  mem_wf : s.mem.wf = true
  pending_paused : ∀ i, s.pending = some i → s.run_state = .paused ∧ isStringInstr i = true ∧ s.cur.rep ≠ .none
  idle : s.pending = none → s.cur = InFlight.empty
  stopped_idle : s.run_state = .stopped → s.requested_state = .stopped
  running_booted : s.run_state ≠ .stopped → s.booted = true
  handles_fresh : ∀ h ∈ s.callbacks, h < s.nextHandle
  handles_nodup : s.callbacks.Nodup

/-- The fatal error a step has ended in, if it has: it is the newest event (60_exceptions.md R332). -/
def State.fatalError? (s : State) : Option FatalError :=
  match s.host_log with
  | .fatal e :: _ => some e
  | _ => none

/-- A safe run never meets a fatal error. -/
def Safe (s : State) : Prop := ∀ e, HostEvent.fatal e ∉ s.host_log

/-- The host asks for nothing from now on, and the machine runs. -/
def Quiet (s : State) : Prop := s.run_state = .running ∧ s.requested_state = .running ∧ s.inbox = []

/-! ## Frames -/

/-- The value of a part. -/
def State.part (s : State) : RegPart → Word
  | .byte r => (s.reg8 r).setWidth 16
  | .sp => s.regs.SP
  | .bp => s.regs.BP
  | .si => s.regs.SI
  | .di => s.regs.DI
  | .ip => s.regs.IP
  | .seg r => s.sreg r

/-- The nine flags by name (10_state.md R27). -/
inductive FlagName where
  | cf | pf | af | zf | sf | of | df | if_ | tf
deriving DecidableEq, Repr

/-- The flag with this name. -/
def Flags.get (f : Flags) : FlagName → Bool
  | .cf => f.CF | .pf => f.PF | .af => f.AF | .zf => f.ZF | .sf => f.SF | .of => f.OF | .df => f.DF | .if_ => f.IF | .tf => f.TF

/-- The six status flags. -/
def statusFlags : List FlagName := [.cf, .pf, .af, .zf, .sf, .of]

/-- From `s` to `t` nothing changes but the register parts `parts`, the flags `flags`, and the bytes at `stored`. What is neither a
register, a flag nor memory stays as it is, but for the model's own counter of free values. -/
structure Frame (s t : State) (parts : List RegPart) (flags : List FlagName) (stored : List Phys) : Prop where
  regs : ∀ p, p ∉ parts → t.part p = s.part p
  flags : ∀ f, f ∉ flags → t.flags.get f = s.flags.get f
  mem : ∀ a : Phys, a ∉ stored → t.mem.byteAt a = s.mem.byteAt a
  rest : t = { s with regs := t.regs, flags := t.flags, mem := t.mem, draws := t.draws }

/-- The addresses stored to through a destination `r/m8`. -/
def State.stored8 (s : State) : Rm8 → List Phys
  | .reg _ => []
  | .mem m => [s.memPhys m]

/-- The addresses stored to through a destination `r/m16`. -/
def State.stored16 (s : State) : Rm16 → List Phys
  | .reg _ => []
  | .mem m => [s.memPhys m, s.memPhys m + 1]

/-- The two bytes of the stack slot a push in this state writes (20_memory.md R70). -/
def State.pushSlot (s : State) : List Phys := [phys s.regs.SS (s.regs.SP - 2), phys s.regs.SS (s.regs.SP - 2) + 1]

/-- The four bytes of the two slots that two pushes write. -/
def State.pushSlots2 (s : State) : List Phys :=
  s.pushSlot ++ [phys s.regs.SS (s.regs.SP - 4), phys s.regs.SS (s.regs.SP - 4) + 1]

/-- The six bytes of the three slots that a dispatch writes (60_exceptions.md R340). -/
def State.pushSlots3 (s : State) : List Phys :=
  s.pushSlots2 ++ [phys s.regs.SS (s.regs.SP - 6), phys s.regs.SS (s.regs.SP - 6) + 1]

/-! ## Families of instructions -/

/-- The five operations of 40_arithmetic.md R142 to R146. -/
inductive ArithOp where
  | add | adc | sub | sbb | cmp
deriving DecidableEq, Repr

/-- The three operations of 41_logical.md R171 to R173. -/
inductive LogicOp where
  | and | or | xor
deriving DecidableEq, Repr

/-- The byte forms of 40_arithmetic.md R140. -/
inductive ByteForm where
  | rmR (rm : Rm8) (r : Reg8)
  | rRm (r : Reg8) (rm : Rm8)
  | acc (ib : Byte)
  | imm (rm : Rm8) (ib : Byte)
  | imm82 (rm : Rm8) (ib : Byte)
deriving DecidableEq, Repr

/-- The word forms of 40_arithmetic.md R140. -/
inductive WordForm where
  | rmR (rm : Rm16) (r : Reg16)
  | rRm (r : Reg16) (rm : Rm16)
  | acc (iw : Word)
  | imm (rm : Rm16) (iw : Word)
  | sext (rm : Rm16) (ib : Byte)
deriving DecidableEq, Repr

/-- The `dst` column of 40_arithmetic.md R140. -/
def ByteForm.dst : ByteForm → Rm8
  | .rmR rm _ => rm
  | .rRm r _ => .reg r
  | .acc _ => .reg .al
  | .imm rm _ => rm
  | .imm82 rm _ => rm

/-- The `src` column of 40_arithmetic.md R140, read. -/
def ByteForm.src (f : ByteForm) (s : State) : Byte :=
  match f with
  | .rmR _ r => s.reg8 r
  | .rRm _ rm => s.rm8 rm
  | .acc ib => ib
  | .imm _ ib => ib
  | .imm82 _ ib => ib

/-- The `dst` column of 40_arithmetic.md R140. -/
def WordForm.dst : WordForm → Rm16
  | .rmR rm _ => rm
  | .rRm r _ => .reg r
  | .acc _ => .reg .ax
  | .imm rm _ => rm
  | .sext rm _ => rm

/-- The `src` column of 40_arithmetic.md R140, read; the 83 form is extended by its sign. -/
def WordForm.src (f : WordForm) (s : State) : Word :=
  match f with
  | .rmR _ r => s.reg16 r
  | .rRm _ rm => s.rm16 rm
  | .acc iw => iw
  | .imm _ iw => iw
  | .sext _ ib => BitVec.ofInt 16 ib.toInt

/-- The byte rows of ADD ADC SUB SBB CMP. -/
def ArithOp.byteInstr : ArithOp → ByteForm → Instr
  | .add, .rmR rm r => .addRm8R8 rm r
  | .add, .rRm r rm => .addR8Rm8 r rm
  | .add, .acc ib => .addAlIb ib
  | .add, .imm rm ib => .addRm8Ib rm ib
  | .add, .imm82 rm ib => .addRm8Ib82 rm ib
  | .adc, .rmR rm r => .adcRm8R8 rm r
  | .adc, .rRm r rm => .adcR8Rm8 r rm
  | .adc, .acc ib => .adcAlIb ib
  | .adc, .imm rm ib => .adcRm8Ib rm ib
  | .adc, .imm82 rm ib => .adcRm8Ib82 rm ib
  | .sub, .rmR rm r => .subRm8R8 rm r
  | .sub, .rRm r rm => .subR8Rm8 r rm
  | .sub, .acc ib => .subAlIb ib
  | .sub, .imm rm ib => .subRm8Ib rm ib
  | .sub, .imm82 rm ib => .subRm8Ib82 rm ib
  | .sbb, .rmR rm r => .sbbRm8R8 rm r
  | .sbb, .rRm r rm => .sbbR8Rm8 r rm
  | .sbb, .acc ib => .sbbAlIb ib
  | .sbb, .imm rm ib => .sbbRm8Ib rm ib
  | .sbb, .imm82 rm ib => .sbbRm8Ib82 rm ib
  | .cmp, .rmR rm r => .cmpRm8R8 rm r
  | .cmp, .rRm r rm => .cmpR8Rm8 r rm
  | .cmp, .acc ib => .cmpAlIb ib
  | .cmp, .imm rm ib => .cmpRm8Ib rm ib
  | .cmp, .imm82 rm ib => .cmpRm8Ib82 rm ib

/-- The word rows of ADD ADC SUB SBB CMP. -/
def ArithOp.wordInstr : ArithOp → WordForm → Instr
  | .add, .rmR rm r => .addRm16R16 rm r
  | .add, .rRm r rm => .addR16Rm16 r rm
  | .add, .acc iw => .addAxIw iw
  | .add, .imm rm iw => .addRm16Iw rm iw
  | .add, .sext rm ib => .addRm16Sext rm ib
  | .adc, .rmR rm r => .adcRm16R16 rm r
  | .adc, .rRm r rm => .adcR16Rm16 r rm
  | .adc, .acc iw => .adcAxIw iw
  | .adc, .imm rm iw => .adcRm16Iw rm iw
  | .adc, .sext rm ib => .adcRm16Sext rm ib
  | .sub, .rmR rm r => .subRm16R16 rm r
  | .sub, .rRm r rm => .subR16Rm16 r rm
  | .sub, .acc iw => .subAxIw iw
  | .sub, .imm rm iw => .subRm16Iw rm iw
  | .sub, .sext rm ib => .subRm16Sext rm ib
  | .sbb, .rmR rm r => .sbbRm16R16 rm r
  | .sbb, .rRm r rm => .sbbR16Rm16 r rm
  | .sbb, .acc iw => .sbbAxIw iw
  | .sbb, .imm rm iw => .sbbRm16Iw rm iw
  | .sbb, .sext rm ib => .sbbRm16Sext rm ib
  | .cmp, .rmR rm r => .cmpRm16R16 rm r
  | .cmp, .rRm r rm => .cmpR16Rm16 r rm
  | .cmp, .acc iw => .cmpAxIw iw
  | .cmp, .imm rm iw => .cmpRm16Iw rm iw
  | .cmp, .sext rm ib => .cmpRm16Sext rm ib

/-- The byte rows of AND OR XOR. -/
def LogicOp.byteInstr : LogicOp → ByteForm → Instr
  | .and, .rmR rm r => .andRm8R8 rm r
  | .and, .rRm r rm => .andR8Rm8 r rm
  | .and, .acc ib => .andAlIb ib
  | .and, .imm rm ib => .andRm8Ib rm ib
  | .and, .imm82 rm ib => .andRm8Ib82 rm ib
  | .or, .rmR rm r => .orRm8R8 rm r
  | .or, .rRm r rm => .orR8Rm8 r rm
  | .or, .acc ib => .orAlIb ib
  | .or, .imm rm ib => .orRm8Ib rm ib
  | .or, .imm82 rm ib => .orRm8Ib82 rm ib
  | .xor, .rmR rm r => .xorRm8R8 rm r
  | .xor, .rRm r rm => .xorR8Rm8 r rm
  | .xor, .acc ib => .xorAlIb ib
  | .xor, .imm rm ib => .xorRm8Ib rm ib
  | .xor, .imm82 rm ib => .xorRm8Ib82 rm ib

/-- The word rows of AND OR XOR. -/
def LogicOp.wordInstr : LogicOp → WordForm → Instr
  | .and, .rmR rm r => .andRm16R16 rm r
  | .and, .rRm r rm => .andR16Rm16 r rm
  | .and, .acc iw => .andAxIw iw
  | .and, .imm rm iw => .andRm16Iw rm iw
  | .and, .sext rm ib => .andRm16Sext rm ib
  | .or, .rmR rm r => .orRm16R16 rm r
  | .or, .rRm r rm => .orR16Rm16 r rm
  | .or, .acc iw => .orAxIw iw
  | .or, .imm rm iw => .orRm16Iw rm iw
  | .or, .sext rm ib => .orRm16Sext rm ib
  | .xor, .rmR rm r => .xorRm16R16 rm r
  | .xor, .rRm r rm => .xorR16Rm16 r rm
  | .xor, .acc iw => .xorAxIw iw
  | .xor, .imm rm iw => .xorRm16Iw rm iw
  | .xor, .sext rm ib => .xorRm16Sext rm ib

/-- The seven shifts and rotates of 42_shift_rotate.md R191 to R197. -/
inductive ShiftOp where
  | shl | shr | sar | rol | ror | rcl | rcr
deriving DecidableEq, Repr

/-- The byte rows of the shifts and rotates: by CL, or by 1. -/
def ShiftOp.byteInstr : ShiftOp → Bool → Rm8 → Instr
  | .shl, false, rm => .shlRm8One rm
  | .shl, true, rm => .shlRm8Cl rm
  | .shr, false, rm => .shrRm8One rm
  | .shr, true, rm => .shrRm8Cl rm
  | .sar, false, rm => .sarRm8One rm
  | .sar, true, rm => .sarRm8Cl rm
  | .rol, false, rm => .rolRm8One rm
  | .rol, true, rm => .rolRm8Cl rm
  | .ror, false, rm => .rorRm8One rm
  | .ror, true, rm => .rorRm8Cl rm
  | .rcl, false, rm => .rclRm8One rm
  | .rcl, true, rm => .rclRm8Cl rm
  | .rcr, false, rm => .rcrRm8One rm
  | .rcr, true, rm => .rcrRm8Cl rm

/-- The word rows of the shifts and rotates: by CL, or by 1. -/
def ShiftOp.wordInstr : ShiftOp → Bool → Rm16 → Instr
  | .shl, false, rm => .shlRm16One rm
  | .shl, true, rm => .shlRm16Cl rm
  | .shr, false, rm => .shrRm16One rm
  | .shr, true, rm => .shrRm16Cl rm
  | .sar, false, rm => .sarRm16One rm
  | .sar, true, rm => .sarRm16Cl rm
  | .rol, false, rm => .rolRm16One rm
  | .rol, true, rm => .rolRm16Cl rm
  | .ror, false, rm => .rorRm16One rm
  | .ror, true, rm => .rorRm16Cl rm
  | .rcl, false, rm => .rclRm16One rm
  | .rcl, true, rm => .rclRm16Cl rm
  | .rcr, false, rm => .rcrRm16One rm
  | .rcr, true, rm => .rcrRm16Cl rm

/-- The sixteen conditions of 45_control_flow.md R276, named as in the mnemonics. -/
inductive Cond where
  | o | no | b | nb | z | nz | be | a | s | ns | pe | po | l | ge | le | g
deriving DecidableEq, Repr

/-- The sixteen conditional jumps (45_control_flow.md R276). -/
def Cond.instr : Cond → Byte → Instr
  | .o => .jo
  | .no => .jno
  | .b => .jb
  | .nb => .jnb
  | .z => .jz
  | .nz => .jnz
  | .be => .jbe
  | .a => .ja
  | .s => .js
  | .ns => .jns
  | .pe => .jpe
  | .po => .jpo
  | .l => .jl
  | .ge => .jge
  | .le => .jle
  | .g => .jg

/-- The opcode column of 45_control_flow.md R276. -/
def Cond.opcode : Cond → Byte
  | .o => 0x70
  | .no => 0x71
  | .b => 0x72
  | .nb => 0x73
  | .z => 0x74
  | .nz => 0x75
  | .be => 0x76
  | .a => 0x77
  | .s => 0x78
  | .ns => 0x79
  | .pe => 0x7A
  | .po => 0x7B
  | .l => 0x7C
  | .ge => 0x7D
  | .le => 0x7E
  | .g => 0x7F

/-- The predicate column of 45_control_flow.md R276. -/
def Cond.Taken (c : Cond) (f : Flags) : Prop :=
  match c with
  | .o => f.OF = true
  | .no => f.OF = false
  | .b => f.CF = true
  | .nb => f.CF = false
  | .z => f.ZF = true
  | .nz => f.ZF = false
  | .be => f.CF = true ∨ f.ZF = true
  | .a => ¬(f.CF = true ∨ f.ZF = true)
  | .s => f.SF = true
  | .ns => f.SF = false
  | .pe => f.PF = true
  | .po => f.PF = false
  | .l => f.SF ≠ f.OF
  | .ge => f.SF = f.OF
  | .le => f.SF ≠ f.OF ∨ f.ZF = true
  | .g => ¬(f.SF ≠ f.OF ∨ f.ZF = true)

/-- The four rows that can dispatch an interrupt (60_exceptions.md R338). -/
def dispatches (i : Instr) : Bool :=
  match i with
  | .intIb _ | .int3 | .divRm8 _ | .divRm16 _ => true
  | _ => false

/-! ## Memory operands (30_encoding.md R96, R106, R107) -/

/-- The sum of a list of registers. -/
def State.sumOf (s : State) (rs : List Reg16) : Nat := (rs.map fun r => (s.reg16 r).toNat).sum

/-! ## The arithmetic of the spec, over numbers -/

/-- `SetSZP_N(r)` of 10_state.md R33: ZF, SF and PF of a result of width n. -/
def SZPOf {n : Nat} (r : BitVec n) (f : Flags) : Prop :=
  (f.ZF = true ↔ r.toNat = 0) ∧ (f.SF = true ↔ 2 ^ (n - 1) ≤ r.toNat) ∧
    (f.PF = true ↔ ((List.range 8).countP fun i => r.toNat.testBit i) % 2 = 0)

/-- The exact sum or difference, before it is taken modulo 2^N: c is CF (40_arithmetic.md R141). -/
def ArithOp.exact (op : ArithOp) (a b : Int) (c : Bool) : Int :=
  match op with
  | .add => a + b
  | .adc => a + b + c.toNat
  | .sub | .cmp => a - b
  | .sbb => a - b - c.toNat

/-- The result of 40_arithmetic.md R141. -/
def ArithOp.result (op : ArithOp) {n : Nat} (a b : BitVec n) (c : Bool) : BitVec n :=
  BitVec.ofInt n (op.exact a.toNat b.toNat c)

/-- Whether the operation adds. -/
def ArithOp.adds : ArithOp → Bool
  | .add | .adc => true
  | .sub | .sbb | .cmp => false

/-- CF of 40_arithmetic.md R141: a carry out, or a borrow. -/
def ArithOp.CarryOf (op : ArithOp) {n : Nat} (a b : BitVec n) (c : Bool) (f : Flags) : Prop :=
  f.CF = true ↔ if op.adds then (2 : Int) ^ n ≤ op.exact a.toNat b.toNat c else op.exact a.toNat b.toNat c < 0

/-- The other five flags of 40_arithmetic.md R141. -/
def ArithOp.OtherFlagsOf (op : ArithOp) {n : Nat} (a b : BitVec n) (c : Bool) (f : Flags) : Prop :=
  (f.OF = true ↔ (if op.adds then a.msb = b.msb else a.msb ≠ b.msb) ∧ (op.result a b c).msb ≠ a.msb) ∧
  (f.AF = true ↔ if op.adds then (16 : Int) ≤ op.exact (a.toNat % 16 : Nat) (b.toNat % 16 : Nat) c
    else op.exact (a.toNat % 16 : Nat) (b.toNat % 16 : Nat) c < 0) ∧
  SZPOf (op.result a b c) f

/-- One bit of a Boolean operation (41_logical.md R171 to R173). -/
def LogicOp.onBits : LogicOp → Bool → Bool → Bool
  | .and => fun a b => a && b
  | .or => fun a b => a || b
  | .xor => fun a b => a != b

/-- `LogicFlags_N(r)` of 41_logical.md R170; AF may be anything. -/
def LogicFlagsOf {n : Nat} (r : BitVec n) (f : Flags) : Prop := f.CF = false ∧ f.OF = false ∧ SZPOf r f

/-- One round of the loop of 42_shift_rotate.md R191 to R197 at width n, on the value and CF. -/
def ShiftOp.round (op : ShiftOp) (n : Nat) (x : Nat × Bool) : Nat × Bool :=
  let v := x.1
  let top := v / 2 ^ (n - 1) % 2
  match op with
  | .shl => (2 * v % 2 ^ n, decide (top = 1))
  | .shr => (v / 2, decide (v % 2 = 1))
  | .sar => (v / 2 + top * 2 ^ (n - 1), decide (v % 2 = 1))
  | .rol => (2 * v % 2 ^ n + top, decide (top = 1))
  | .ror => (v / 2 + v % 2 * 2 ^ (n - 1), decide (v % 2 = 1))
  | .rcl => (2 * v % 2 ^ n + x.2.toNat, decide (top = 1))
  | .rcr => (v / 2 + x.2.toNat * 2 ^ (n - 1), decide (v % 2 = 1))

/-- `repeat count times` of 42_shift_rotate.md R191 to R197. -/
def ShiftOp.rounds (op : ShiftOp) (n : Nat) : Nat → Nat × Bool → Nat × Bool
  | 0, x => x
  | k + 1, x => op.rounds n k (op.round n x)

/-- OF after a shift or rotate by one, from the original value, the result and CF (42_shift_rotate.md R191 to R197). -/
def ShiftOp.overflow (op : ShiftOp) (n orig r : Nat) (cf : Bool) : Bool :=
  match op with
  | .shl | .rol | .rcl => cf != r.testBit (n - 1)
  | .shr => orig.testBit (n - 1)
  | .sar => false
  | .ror | .rcr => r.testBit (n - 1) != r.testBit (n - 2)

/-- Whether the operation sets SF, ZF and PF (42_shift_rotate.md R190). -/
def ShiftOp.setsSZP : ShiftOp → Bool
  | .shl | .shr | .sar => true
  | .rol | .ror | .rcl | .rcr => false

/-- The flags a shift or rotate by a count that is not 0 may write (42_shift_rotate.md R190). -/
def ShiftOp.flagsWritten : ShiftOp → List FlagName
  | .shl | .shr | .sar => statusFlags
  | .rol | .ror | .rcl | .rcr => [.cf, .of]

/-- What a shift or rotate does to its operand and flags (42_shift_rotate.md R190 to R197), for a count that is not 0. -/
def ShiftOp.Outcome (op : ShiftOp) {n : Nat} (count : Nat) (v : BitVec n) (c : Bool) (r : BitVec n) (f : Flags) : Prop :=
  let out := op.rounds n count (v.toNat, c)
  r.toNat = out.1 ∧ f.CF = out.2 ∧ (op.setsSZP = true → SZPOf r f) ∧
    (count = 1 → f.OF = op.overflow n v.toNat r.toNat f.CF)

/-- Whether the row compares (43_string.md R212, R215): only then does a repetition look at ZF (R216). -/
def comparesElements (i : Instr) : Bool :=
  match i with
  | .cmpsb | .cmpsw | .scasb | .scasw => true
  | _ => false

/-- `ZF` fails to match the prefix (43_string.md R216). -/
def zfMismatch (p : RepPrefix) (zf : Bool) : Prop := (p = .rep ∧ zf = false) ∨ (p = .repNZ ∧ zf = true)

/-- The segment of a string source (43_string.md R210). -/
def State.sourceSeg (s : State) : Word := s.sreg (s.cur.seg.getD .ds)

/-- The step of a string pointer (43_string.md R210). -/
def stringStep (f : Flags) (n : Nat) (x : Word) : Word :=
  BitVec.ofInt 16 (if f.DF then (x.toNat : Int) - n else x.toNat + n)

/-- The register parts an iteration of a string row writes (43_string.md R211 to R215). -/
def stringParts (i : Instr) : List RegPart :=
  match i with
  | .movsb | .movsw | .cmpsb | .cmpsw => [.si, .di]
  | .stosb | .stosw | .scasb | .scasw => [.di]
  | .lodsb => [.byte .al, .si]
  | .lodsw => [.byte .al, .byte .ah, .si]
  | _ => []

/-- The offset of the destination element number `k`, counted from the element at DI in the direction of DF, for elements of `n` bytes
(43_string.md R210). -/
def State.elementAt (s : State) (n k : Nat) : Word :=
  BitVec.ofInt 16 (if s.flags.DF then (s.regs.DI.toNat : Int) - n * k else s.regs.DI.toNat + n * k)

/-- The addresses of the first CX destination elements of a string row that stores (43_string.md R211, R214). -/
def State.stringStored (s : State) (i : Instr) : List Phys :=
  match i with
  | .movsb | .stosb => (List.range s.regs.CX.toNat).map fun k => phys s.regs.ES (s.elementAt 1 k)
  | .movsw | .stosw => (List.range s.regs.CX.toNat).flatMap fun k =>
      [phys s.regs.ES (s.elementAt 2 k), phys s.regs.ES (s.elementAt 2 k) + 1]
  | _ => []

/-! ## The Interrupt Layer -/

/-- The pairs of vector and AH that 60_exceptions.md R351 to R362 list. -/
def servedPairs : List (Byte × Byte) :=
  [(0x10, 0x00), (0x10, 0x02), (0x10, 0x03), (0x10, 0x06), (0x10, 0x09), (0x10, 0x0A), (0x10, 0x0E), (0x13, 0x02), (0x16, 0x00),
    (0x16, 0x01), (0x1A, 0x00), (0x21, 0x02), (0x21, 0x09), (0x21, 0x19), (0x21, 0x30), (0x21, 0x3D), (0x21, 0x3F), (0x21, 0x42),
    (0x21, 0x4C)]

/-- The bytes a service may write (60_exceptions.md R349): the text buffer for the video services, and the buffers that the disk read
(R357) and the file read (R361) name. -/
def InServiceBuffer (vector : Byte) (v : View) (a : Phys) : Prop :=
  (vector = 0x10 ∧ 0xB8000 ≤ a.toNat ∧ a.toNat ≤ 0xB8F9F) ∨
  (vector = 0x13 ∧ ∃ k : Nat, k < (v.regs.get8 .al).toNat * 512 ∧ a = phys v.regs.ES (v.regs.BX + BitVec.ofNat 16 k)) ∨
  (vector = 0x21 ∧ v.regs.get8 .ah = 0x3F ∧ ∃ k : Nat, k < v.regs.CX.toNat ∧ a = phys v.regs.DS (v.regs.DX + BitVec.ofNat 16 k))

end Sys2Proof.Machine
end

