-- ==== Sys2Proof/Certificates/Slice0/Obligations.lean ====
section
/-! DEFINITION. The statements for the provers. Each docstring names the rules of spec/ it formalises; OBLIGATIONS.json says which are
stated by a rule and which are derived. -/

open Sys2Proof Sys2Proof.Machine

/-! ## Encoding -/

/-- Decoding the bytes of a well-formed instruction gives the instruction back, whatever follows it (30_encoding.md R116, R117). The bytes
of a refused encoding are the model's choice, log entry 19. -/
def Obligations.DecodeAfterEncode : Prop :=
  ∀ (i : Instr) (rest : List Byte), i.wf = true → decode (encode i ++ rest) = .ok i rest

/-- What the decoder answers is well-formed, and its encoding is the very bytes that were read: every byte sequence has one meaning
(30_encoding.md R127). The bytes of a refused encoding are the model's choice, log entry 19. -/
def Obligations.EncodeAfterDecode : Prop :=
  ∀ (bs rest : List Byte) (i : Instr), decode bs = .ok i rest → i.wf = true ∧ encode i ++ rest = bs

/-- Words written out from the encoding tables decode to the instructions they stand for (30_encoding.md R90 to R117). That the form `FF
DB` is refused is decision D15 of the spec, and that it takes two bytes the model's choice, log entry 19; that a prefix decodes alone is
the model's choice, log entry 10. -/
def Obligations.SampleWordsDecode : Prop :=
  decode [0x8B, 0x40, 0x80] = .ok (.movR16Rm16 .ax (.mem (.based .bxSi (.d8 0x80)))) [] ∧
  decode [0x83, 0xC0, 0xFF] = .ok (.addRm16Sext (.reg .ax) 0xFF) [] ∧
  decode [0x81, 0x3E, 0x00, 0x03, 0x34, 0x12] = .ok (.cmpRm16Iw (.mem (.direct 0x0300)) 0x1234) [] ∧
  decode [0x24, 0x3C] = .ok (.andAlIb 0x3C) [] ∧
  decode [0xD3, 0xE3] = .ok (.shlRm16Cl (.reg .bx)) [] ∧
  decode [0xF3, 0xA4] = .ok .prefixRep [0xA4] ∧
  decode [0xA4] = .ok .movsb [] ∧
  decode [0x8E, 0xD8] = .ok (.movSregRm16 .ds (.reg .ax)) [] ∧
  decode [0x8F, 0x06, 0x00, 0x03] = .ok (.popRm16 (.mem (.direct 0x0300))) [] ∧
  decode [0xEA, 0x00, 0x7C, 0x00, 0x00] = .ok (.jmpPtr 0x7C00 0x0000) [] ∧
  decode [0x74, 0x06] = .ok (.jz 0x06) [] ∧
  decode [0xCD, 0x21] = .ok (.intIb 0x21) [] ∧
  decode [0xFC] = .ok .cld [] ∧
  decode [0xF4] = .ok .unimplF4 [] ∧
  decode [0xFF, 0xDB] = .ok (.unimplFFSub3Mod3 3) []

/-- Every opcode byte is a prefix, an unimplemented opcode or an implemented one: a prefix decodes alone; an unimplemented opcode
decodes alone, to an `UnhandledInstruction`; any other byte, with a memory operand of ModR/M byte `00` and zeros behind it, decodes to
an instruction that is neither (30_encoding.md R109, R119, R120). The refused forms: `LEA`, `LES`, `LDS` and the far forms of `FF` with
mod = 11, and `8C`, `8E` with reg of 4 to 7, are `UnhandledInstruction` (R121, R122). That forms without a meaning are refused is
decision D15 of the spec, that `8C` and `8E` with reg of 4 to 7 are is decision D16; that a prefix decodes alone is the model's choice,
log entry 10; which bytes a refused encoding takes is the model's choice, log entry 19. -/
def Obligations.RefusedEncodings : Prop :=
  (∀ (b : Byte) (bs : List Byte), b ∈ prefixBytes → ∃ i, decode (b :: bs) = .ok i bs ∧ i.isPrefix = true) ∧
  (∀ (b : Byte) (bs : List Byte), b ∈ unimplementedBytes →
    ∃ i, decode (b :: bs) = .ok i bs ∧ i.decodeError? = some .instruction) ∧
  (∀ b : Byte, b ∉ prefixBytes → b ∉ unimplementedBytes →
    ∃ i rest, decode [b, 0, 0, 0, 0, 0] = .ok i rest ∧ i.isPrefix = false ∧ i.decodeError? = none) ∧
  (∀ (op m : Byte) (bs : List Byte), op ∈ [0x8D, 0xC4, 0xC5] → m.extractLsb' 6 2 = 3 →
    ∃ i, decode (op :: m :: bs) = .ok i bs ∧ i.decodeError? = some .instruction) ∧
  (∀ (m : Byte) (bs : List Byte), m.extractLsb' 6 2 = 3 → m.extractLsb' 3 3 = 3 ∨ m.extractLsb' 3 3 = 5 →
    ∃ i, decode (0xFF :: m :: bs) = .ok i bs ∧ i.decodeError? = some .instruction) ∧
  (∀ (op m : Byte) (bs : List Byte), op ∈ [0x8C, 0x8E] → 4 ≤ (m.extractLsb' 3 3).toNat →
    ∃ i, decode (op :: m :: bs) = .ok i bs ∧ i.decodeError? = some .instruction)

/-! ## Registers, flags, memory -/

/-- The byte views: a read takes a half, a write replaces that half and keeps the other (10_state.md R21). -/
def Obligations.ByteViewsAliasWords : Prop :=
  ∀ (g : Regs) (v : Byte),
    (g.get8 .al).toNat = g.AX.toNat % 256 ∧ (g.get8 .ah).toNat = g.AX.toNat / 256 ∧
    (g.get8 .bl).toNat = g.BX.toNat % 256 ∧ (g.get8 .bh).toNat = g.BX.toNat / 256 ∧
    (g.get8 .cl).toNat = g.CX.toNat % 256 ∧ (g.get8 .ch).toNat = g.CX.toNat / 256 ∧
    (g.get8 .dl).toNat = g.DX.toNat % 256 ∧ (g.get8 .dh).toNat = g.DX.toNat / 256 ∧
    g.set8 .al v = { g with AX := (g.AX &&& 0xFF00) ||| v.setWidth 16 } ∧
    g.set8 .ah v = { g with AX := (g.AX &&& 0x00FF) ||| (v.setWidth 16 <<< 8) } ∧
    g.set8 .bl v = { g with BX := (g.BX &&& 0xFF00) ||| v.setWidth 16 } ∧
    g.set8 .bh v = { g with BX := (g.BX &&& 0x00FF) ||| (v.setWidth 16 <<< 8) } ∧
    g.set8 .cl v = { g with CX := (g.CX &&& 0xFF00) ||| v.setWidth 16 } ∧
    g.set8 .ch v = { g with CX := (g.CX &&& 0x00FF) ||| (v.setWidth 16 <<< 8) } ∧
    g.set8 .dl v = { g with DX := (g.DX &&& 0xFF00) ||| v.setWidth 16 } ∧
    g.set8 .dh v = { g with DX := (g.DX &&& 0x00FF) ||| (v.setWidth 16 <<< 8) }

/-- The FLAGS image, bit by bit, and that reading it back gives the nine flags (10_state.md R38). The layout and the fixed bits are
decision D5 of the spec. -/
def Obligations.FlagsImageLayout : Prop :=
  (∀ f : Flags,
    f.pack.toNat = 0xF002 + f.CF.toNat + f.PF.toNat * 2 ^ 2 + f.AF.toNat * 2 ^ 4 + f.ZF.toNat * 2 ^ 6 + f.SF.toNat * 2 ^ 7
      + f.TF.toNat * 2 ^ 8 + f.IF.toNat * 2 ^ 9 + f.DF.toNat * 2 ^ 10 + f.OF.toNat * 2 ^ 11 ∧
    Flags.unpack f.pack = f) ∧
  ∀ w : Word, Flags.unpack w =
    { CF := w.toNat.testBit 0, PF := w.toNat.testBit 2, AF := w.toNat.testBit 4, ZF := w.toNat.testBit 6, SF := w.toNat.testBit 7
      TF := w.toNat.testBit 8, IF := w.toNat.testBit 9, DF := w.toNat.testBit 10, OF := w.toNat.testBit 11 }

/-- The physical address, the two word accesses and the byte write (20_memory.md R62, R64, R65, R66). -/
def Obligations.MemoryAccessesAsStated : Prop :=
  ∀ (m : Memory) (seg off : Word), m.wf = true →
    (phys seg off).toNat = (seg.toNat * 16 + off.toNat) % 2 ^ 20 ∧
    (m.read16 seg off).toNat = (m.byteAt (phys seg off)).toNat + 256 * (m.byteAt (phys seg off + 1)).toNat ∧
    (∀ (v : Byte) (a : Phys), (m.write8 seg off v).byteAt a = if a = phys seg off then v else m.byteAt a) ∧
    (∀ (v : Word) (a : Phys), ((m.write16 seg off v).byteAt a).toNat =
      if a = phys seg off then v.toNat % 256 else if a = phys seg off + 1 then v.toNat / 256 else (m.byteAt a).toNat)

/-- The effective address and the segment of a memory operand (30_encoding.md R106, R107): a segment prefix overrides the default, which
is SS exactly when the base contains BP. That every base with BP defaults to SS is decision D14 of the spec. -/
def Obligations.OperandAddressAsStated : Prop :=
  ∀ (s : State) (b : Base) (d : Disp) (a : Word),
    ((s.ea (.based b d)).toNat : Int) = (s.sumOf b.registers + d.signed) % 65536 ∧
    s.ea (.direct a) = a ∧
    (∀ r, s.cur.seg = some r → s.memSeg (.based b d) = s.sreg r ∧ s.memSeg (.direct a) = s.sreg r) ∧
    (s.cur.seg = none → s.memSeg (.based b d) = (if Reg16.bp ∈ b.registers then s.regs.SS else s.regs.DS) ∧
      s.memSeg (.direct a) = s.regs.DS) ∧
    s.memPhys (.based b d) = phys (s.memSeg (.based b d)) (s.ea (.based b d)) ∧
    s.memPhys (.direct a) = phys (s.memSeg (.direct a)) (s.ea (.direct a))

/-! ## Arithmetic -/

/-- ADD ADC SUB SBB CMP in their five byte forms: they complete, with the result of 40_arithmetic.md R141 in the destination (not for
CMP), the six flags it gives, and nothing else changed (R142 to R146). The borrow form of the subtraction is the spec's reading, R141. -/
def Obligations.ArithmeticOnBytes : Prop :=
  ∀ (op : ArithOp) (f : ByteForm) (s : State), s.mem.wf = true →
    ∃ t, exec (op.byteInstr f) s = .next t ∧
      (op ≠ .cmp → t.get8 (s.loc8 f.dst) = op.result (s.rm8 f.dst) (f.src s) s.flags.CF) ∧
      op.CarryOf (s.rm8 f.dst) (f.src s) s.flags.CF t.flags ∧
      op.OtherFlagsOf (s.rm8 f.dst) (f.src s) s.flags.CF t.flags ∧
      Frame s t (if op = .cmp then [] else f.dst.parts) statusFlags (if op = .cmp then [] else s.stored8 f.dst)

/-- ADD ADC SUB SBB CMP in their five word forms, the sign-extended one among them (40_arithmetic.md R141 to R146). The borrow form of the
subtraction is the spec's reading, R141. -/
def Obligations.ArithmeticOnWords : Prop :=
  ∀ (op : ArithOp) (f : WordForm) (s : State), s.mem.wf = true →
    ∃ t, exec (op.wordInstr f) s = .next t ∧
      (op ≠ .cmp → t.get16 (s.loc16 f.dst) = op.result (s.rm16 f.dst) (f.src s) s.flags.CF) ∧
      op.CarryOf (s.rm16 f.dst) (f.src s) s.flags.CF t.flags ∧
      op.OtherFlagsOf (s.rm16 f.dst) (f.src s) s.flags.CF t.flags ∧
      Frame s t (if op = .cmp then [] else f.dst.parts) statusFlags (if op = .cmp then [] else s.stored16 f.dst)

/-- OF after ADD ADC SUB SBB CMP says that the exact signed result does not fit in the width (10_state.md R34). -/
def Obligations.OverflowFlagIsSignedOverflow : Prop :=
  ∀ (op : ArithOp) (s : State),
    (∀ f : ByteForm, ∃ t, exec (op.byteInstr f) s = .next t ∧
      (t.flags.OF = true ↔
        op.exact (s.rm8 f.dst).toInt (f.src s).toInt s.flags.CF < -128 ∨
          127 < op.exact (s.rm8 f.dst).toInt (f.src s).toInt s.flags.CF)) ∧
    (∀ f : WordForm, ∃ t, exec (op.wordInstr f) s = .next t ∧
      (t.flags.OF = true ↔
        op.exact (s.rm16 f.dst).toInt (f.src s).toInt s.flags.CF < -32768 ∨
          32767 < op.exact (s.rm16 f.dst).toInt (f.src s).toInt s.flags.CF))

/-- INC and DEC in all their forms: one more, one less, the flags of ADD and SUB but for CF, which keeps its value (40_arithmetic.md R147,
R148). That the other five flags follow ADD and SUB is the spec's reading, R147. -/
def Obligations.IncrementAndDecrement : Prop :=
  ∀ s : State, s.mem.wf = true →
    (∀ (op : ArithOp) (i : Instr) (rm : Rm8), (op = .add ∧ i = .incRm8 rm) ∨ (op = .sub ∧ i = .decRm8 rm) →
      ∃ t, exec i s = .next t ∧ t.get8 (s.loc8 rm) = op.result (s.rm8 rm) 1 false ∧
        op.OtherFlagsOf (s.rm8 rm) 1 false t.flags ∧ Frame s t rm.parts [.pf, .af, .zf, .sf, .of] (s.stored8 rm)) ∧
    (∀ (op : ArithOp) (i : Instr) (rm : Rm16), (op = .add ∧ i = .incRm16 rm) ∨ (op = .sub ∧ i = .decRm16 rm) ∨
        (∃ r, rm = .reg r ∧ ((op = .add ∧ i = .incR16 r) ∨ (op = .sub ∧ i = .decR16 r))) →
      ∃ t, exec i s = .next t ∧ t.get16 (s.loc16 rm) = op.result (s.rm16 rm) 1 false ∧
        op.OtherFlagsOf (s.rm16 rm) 1 false t.flags ∧ Frame s t rm.parts [.pf, .af, .zf, .sf, .of] (s.stored16 rm))

/-- MUL: the full product, CF and OF telling whether its upper half is not zero; SF ZF AF PF may be anything (40_arithmetic.md R149). The
data path is decision D12 of the spec; the free flags are log entry 4. -/
def Obligations.UnsignedMultiply : Prop :=
  ∀ s : State,
    (∀ rm : Rm8, ∃ t, exec (.mulRm8 rm) s = .next t ∧
      t.regs.AX.toNat = (s.reg8 .al).toNat * (s.rm8 rm).toNat ∧
      (t.flags.CF = true ↔ 2 ^ 8 ≤ (s.reg8 .al).toNat * (s.rm8 rm).toNat) ∧ t.flags.OF = t.flags.CF ∧
      Frame s t (Reg16.parts .ax) statusFlags []) ∧
    (∀ rm : Rm16, ∃ t, exec (.mulRm16 rm) s = .next t ∧
      t.regs.DX.toNat * 2 ^ 16 + t.regs.AX.toNat = s.regs.AX.toNat * (s.rm16 rm).toNat ∧
      (t.flags.CF = true ↔ 2 ^ 16 ≤ s.regs.AX.toNat * (s.rm16 rm).toNat) ∧ t.flags.OF = t.flags.CF ∧
      Frame s t (Reg16.parts .ax ++ Reg16.parts .dx) statusFlags [])

/-- DIV with a divisor that is not zero and a quotient that fits: quotient and remainder, all six status flags anything, nothing else
changed (40_arithmetic.md R150). The data path is decision D12 of the spec; the free flags are log entry 4. -/
def Obligations.UnsignedDivide : Prop :=
  ∀ s : State,
    (∀ rm : Rm8, (s.rm8 rm).toNat ≠ 0 → s.regs.AX.toNat / (s.rm8 rm).toNat ≤ 0xFF →
      ∃ t, exec (.divRm8 rm) s = .next t ∧
        (s.regs.AX.toNat = (t.reg8 .al).toNat * (s.rm8 rm).toNat + (t.reg8 .ah).toNat) ∧
        (t.reg8 .ah).toNat < (s.rm8 rm).toNat ∧ Frame s t (Reg16.parts .ax) statusFlags []) ∧
    (∀ rm : Rm16, (s.rm16 rm).toNat ≠ 0 →
      (s.regs.DX.toNat * 2 ^ 16 + s.regs.AX.toNat) / (s.rm16 rm).toNat ≤ 0xFFFF →
      ∃ t, exec (.divRm16 rm) s = .next t ∧
        s.regs.DX.toNat * 2 ^ 16 + s.regs.AX.toNat = t.regs.AX.toNat * (s.rm16 rm).toNat + t.regs.DX.toNat ∧
        t.regs.DX.toNat < (s.rm16 rm).toNat ∧ Frame s t (Reg16.parts .ax ++ Reg16.parts .dx) statusFlags [])

/-- The divide error: with a zero divisor, or a quotient that does not fit, DIV does exactly what `INT 0` does in the same state: IP is
already advanced, and AX, DX and the flags are as before (40_arithmetic.md R150, 60_exceptions.md R342). The pushed IP and the unchanged
registers are decision D10 of the spec. -/
def Obligations.DivideErrorDispatchesZero : Prop :=
  ∀ s : State,
    (∀ rm : Rm8, (s.rm8 rm).toNat = 0 ∨ 0xFF < s.regs.AX.toNat / (s.rm8 rm).toNat →
      exec (.divRm8 rm) s = exec (.intIb 0) s) ∧
    (∀ rm : Rm16, (s.rm16 rm).toNat = 0 ∨
        0xFFFF < (s.regs.DX.toNat * 2 ^ 16 + s.regs.AX.toNat) / (s.rm16 rm).toNat →
      exec (.divRm16 rm) s = exec (.intIb 0) s)

/-! ## Logic -/

/-- AND OR XOR in their five byte forms: every bit of the result, CF and OF cleared, ZF SF PF from the result, AF anything, nothing else
changed (41_logical.md R170 to R173). That AF is a free value is decisions D4 and D29 of the spec, log entry 4. -/
def Obligations.LogicOnBytes : Prop :=
  ∀ (op : LogicOp) (f : ByteForm) (s : State), s.mem.wf = true →
    ∃ t, exec (op.byteInstr f) s = .next t ∧
      (∀ k : Nat, k < 8 → (t.get8 (s.loc8 f.dst)).getLsbD k = op.onBits ((s.rm8 f.dst).getLsbD k) ((f.src s).getLsbD k)) ∧
      LogicFlagsOf (t.get8 (s.loc8 f.dst)) t.flags ∧
      Frame s t f.dst.parts statusFlags (s.stored8 f.dst)

/-- AND OR XOR in their five word forms (41_logical.md R170 to R173). That AF is a free value is decisions D4 and D29 of the spec, log
entry 4. -/
def Obligations.LogicOnWords : Prop :=
  ∀ (op : LogicOp) (f : WordForm) (s : State), s.mem.wf = true →
    ∃ t, exec (op.wordInstr f) s = .next t ∧
      (∀ k : Nat, k < 16 → (t.get16 (s.loc16 f.dst)).getLsbD k = op.onBits ((s.rm16 f.dst).getLsbD k) ((f.src s).getLsbD k)) ∧
      LogicFlagsOf (t.get16 (s.loc16 f.dst)) t.flags ∧
      Frame s t f.dst.parts statusFlags (s.stored16 f.dst)

/-- TEST in its six forms: the flags of AND, and nothing written but flags (41_logical.md R174). That AF is a free value is decisions D4
and D29 of the spec, log entry 4. -/
def Obligations.TestWritesFlagsOnly : Prop :=
  ∀ s : State,
    (∀ (rm : Rm8) (i : Instr) (b : Byte), (∃ r, i = .testRm8R8 rm r ∧ b = s.reg8 r) ∨ i = .testRm8Ib rm b ∨
        (rm = .reg .al ∧ i = .testAlIb b) →
      ∃ t, exec i s = .next t ∧ LogicFlagsOf (BitVec.ofNat 8 ((s.rm8 rm).toNat &&& b.toNat)) t.flags ∧
        Frame s t [] statusFlags []) ∧
    (∀ (rm : Rm16) (i : Instr) (w : Word), (∃ r, i = .testRm16R16 rm r ∧ w = s.reg16 r) ∨ i = .testRm16Iw rm w ∨
        (rm = .reg .ax ∧ i = .testAxIw w) →
      ∃ t, exec i s = .next t ∧ LogicFlagsOf (BitVec.ofNat 16 ((s.rm16 rm).toNat &&& w.toNat)) t.flags ∧
        Frame s t [] statusFlags [])

/-- NOT: every bit of the destination is turned, no flag changes, and a second NOT gives the whole state back (41_logical.md R175). -/
def Obligations.NotIsAnInvolution : Prop :=
  ∀ s : State, s.mem.wf = true →
    (∀ rm : Rm8, ∃ t, exec (.notRm8 rm) s = .next t ∧ (t.get8 (s.loc8 rm)).toNat = 2 ^ 8 - 1 - (s.rm8 rm).toNat ∧
      Frame s t rm.parts [] (s.stored8 rm) ∧ exec (.notRm8 rm) t = .next s) ∧
    (∀ rm : Rm16, ∃ t, exec (.notRm16 rm) s = .next t ∧ (t.get16 (s.loc16 rm)).toNat = 2 ^ 16 - 1 - (s.rm16 rm).toNat ∧
      Frame s t rm.parts [] (s.stored16 rm) ∧ exec (.notRm16 rm) t = .next s)

/-! ## Shifts and rotates -/

/-- The byte shifts and rotates, by 1 and by CL: with count 0 nothing changes; else the loop of the rule gives the value and CF, SZP are
set by the shifts, OF when the count is 1, and nothing else changes (42_shift_rotate.md R190 to R197). The count modulo 32 is decision D3
of the spec; the free flags are log entry 4. -/
def Obligations.ShiftsOnBytes : Prop :=
  ∀ (op : ShiftOp) (byCl : Bool) (rm : Rm8) (s : State) (count : Nat), s.mem.wf = true →
    count = (if byCl then (s.reg8 .cl).toNat % 32 else 1) →
    (count = 0 → exec (op.byteInstr byCl rm) s = .next s) ∧
    (count ≠ 0 → ∃ t, exec (op.byteInstr byCl rm) s = .next t ∧
      op.Outcome count (s.rm8 rm) s.flags.CF (t.get8 (s.loc8 rm)) t.flags ∧
      Frame s t rm.parts op.flagsWritten (s.stored8 rm))

/-- The word shifts and rotates (42_shift_rotate.md R190 to R197). The count modulo 32 is decision D3 of the spec; the free flags are log
entry 4. -/
def Obligations.ShiftsOnWords : Prop :=
  ∀ (op : ShiftOp) (byCl : Bool) (rm : Rm16) (s : State) (count : Nat), s.mem.wf = true →
    count = (if byCl then (s.reg8 .cl).toNat % 32 else 1) →
    (count = 0 → exec (op.wordInstr byCl rm) s = .next s) ∧
    (count ≠ 0 → ∃ t, exec (op.wordInstr byCl rm) s = .next t ∧
      op.Outcome count (s.rm16 rm) s.flags.CF (t.get16 (s.loc16 rm)) t.flags ∧
      Frame s t rm.parts op.flagsWritten (s.stored16 rm))

/-- The corner cases that 42_shift_rotate.md R191 to R196 name, for a byte register other than CL, and their likes for ROR and RCR: a
shift by the width or past it leaves zeros (or the sign), a rotate by a multiple of the width, or by one more than the width through CF,
gives the value back. The count modulo 32 is decision D3 of the spec. -/
def Obligations.ShiftsPastTheWidth : Prop :=
  ∀ (s : State) (r : Reg8) (c : Nat), r ≠ .cl → c = (s.reg8 .cl).toNat % 32 →
    (c = 8 → ∃ t, exec (.shlRm8Cl (.reg r)) s = .next t ∧ t.reg8 r = 0 ∧ t.flags.CF = (s.reg8 r).getLsbD 0) ∧
    (8 < c → ∃ t, exec (.shlRm8Cl (.reg r)) s = .next t ∧ t.reg8 r = 0 ∧ t.flags.CF = false) ∧
    (c = 8 → ∃ t, exec (.shrRm8Cl (.reg r)) s = .next t ∧ t.reg8 r = 0 ∧ t.flags.CF = (s.reg8 r).msb) ∧
    (8 < c → ∃ t, exec (.shrRm8Cl (.reg r)) s = .next t ∧ t.reg8 r = 0 ∧ t.flags.CF = false) ∧
    (8 ≤ c → ∃ t, exec (.sarRm8Cl (.reg r)) s = .next t ∧
      t.reg8 r = (if (s.reg8 r).msb then 0xFF else 0) ∧ t.flags.CF = (s.reg8 r).msb) ∧
    (c = 8 ∨ c = 16 ∨ c = 24 → ∃ t, exec (.rolRm8Cl (.reg r)) s = .next t ∧
      t.reg8 r = s.reg8 r ∧ t.flags.CF = (s.reg8 r).getLsbD 0) ∧
    (c = 8 ∨ c = 16 ∨ c = 24 → ∃ t, exec (.rorRm8Cl (.reg r)) s = .next t ∧
      t.reg8 r = s.reg8 r ∧ t.flags.CF = (s.reg8 r).msb) ∧
    (c = 9 → ∃ t, exec (.rclRm8Cl (.reg r)) s = .next t ∧ t.reg8 r = s.reg8 r ∧ t.flags.CF = s.flags.CF) ∧
    (c = 9 → ∃ t, exec (.rcrRm8Cl (.reg r)) s = .next t ∧ t.reg8 r = s.reg8 r ∧ t.flags.CF = s.flags.CF)

/-! ## String instructions -/

/-- One MOVS, LODS or STOS without a repetition prefix: the element goes where the rule says, the pointers step by DF, a segment prefix
acts on the source only, no flag changes (43_string.md R210, R211, R213, R214). -/
def Obligations.StringMovesOneElement : Prop :=
  ∀ s : State, s.mem.wf = true → s.cur.rep = .none →
    (∃ t, exec .movsb s = .next t ∧ t.mem.read8 s.regs.ES s.regs.DI = s.mem.read8 s.sourceSeg s.regs.SI ∧
      t.regs.SI = stringStep s.flags 1 s.regs.SI ∧ t.regs.DI = stringStep s.flags 1 s.regs.DI ∧
      Frame s t [.si, .di] [] [phys s.regs.ES s.regs.DI]) ∧
    (∃ t, exec .movsw s = .next t ∧ t.mem.read16 s.regs.ES s.regs.DI = s.mem.read16 s.sourceSeg s.regs.SI ∧
      t.regs.SI = stringStep s.flags 2 s.regs.SI ∧ t.regs.DI = stringStep s.flags 2 s.regs.DI ∧
      Frame s t [.si, .di] [] [phys s.regs.ES s.regs.DI, phys s.regs.ES s.regs.DI + 1]) ∧
    (∃ t, exec .lodsb s = .next t ∧ t.reg8 .al = s.mem.read8 s.sourceSeg s.regs.SI ∧
      t.regs.SI = stringStep s.flags 1 s.regs.SI ∧ Frame s t [.byte .al, .si] [] []) ∧
    (∃ t, exec .lodsw s = .next t ∧ t.regs.AX = s.mem.read16 s.sourceSeg s.regs.SI ∧
      t.regs.SI = stringStep s.flags 2 s.regs.SI ∧ Frame s t [.byte .al, .byte .ah, .si] [] []) ∧
    (∃ t, exec .stosb s = .next t ∧ t.mem.read8 s.regs.ES s.regs.DI = s.reg8 .al ∧
      t.regs.DI = stringStep s.flags 1 s.regs.DI ∧ Frame s t [.di] [] [phys s.regs.ES s.regs.DI]) ∧
    (∃ t, exec .stosw s = .next t ∧ t.mem.read16 s.regs.ES s.regs.DI = s.regs.AX ∧
      t.regs.DI = stringStep s.flags 2 s.regs.DI ∧
      Frame s t [.di] [] [phys s.regs.ES s.regs.DI, phys s.regs.ES s.regs.DI + 1])

/-- One CMPS or SCAS without a repetition prefix: the flags of a subtraction, the pointers step by DF, memory and the accumulator stay
(43_string.md R210, R212, R215). The operand order is decision D31 of the spec. -/
def Obligations.StringComparesOneElement : Prop :=
  ∀ (s : State) (a1 b1 : Byte) (a2 b2 : Word), s.cur.rep = .none →
    a1 = s.mem.read8 s.sourceSeg s.regs.SI → b1 = s.mem.read8 s.regs.ES s.regs.DI →
    a2 = s.mem.read16 s.sourceSeg s.regs.SI → b2 = s.mem.read16 s.regs.ES s.regs.DI →
    (∃ t, exec .cmpsb s = .next t ∧ ArithOp.sub.CarryOf a1 b1 false t.flags ∧ ArithOp.sub.OtherFlagsOf a1 b1 false t.flags ∧
      t.regs.SI = stringStep s.flags 1 s.regs.SI ∧ t.regs.DI = stringStep s.flags 1 s.regs.DI ∧
      Frame s t [.si, .di] statusFlags []) ∧
    (∃ t, exec .cmpsw s = .next t ∧ ArithOp.sub.CarryOf a2 b2 false t.flags ∧ ArithOp.sub.OtherFlagsOf a2 b2 false t.flags ∧
      t.regs.SI = stringStep s.flags 2 s.regs.SI ∧ t.regs.DI = stringStep s.flags 2 s.regs.DI ∧
      Frame s t [.si, .di] statusFlags []) ∧
    (∃ t, exec .scasb s = .next t ∧ ArithOp.sub.CarryOf (s.reg8 .al) b1 false t.flags ∧
      ArithOp.sub.OtherFlagsOf (s.reg8 .al) b1 false t.flags ∧ t.regs.DI = stringStep s.flags 1 s.regs.DI ∧
      Frame s t [.di] statusFlags []) ∧
    (∃ t, exec .scasw s = .next t ∧ ArithOp.sub.CarryOf s.regs.AX b2 false t.flags ∧
      ArithOp.sub.OtherFlagsOf s.regs.AX b2 false t.flags ∧ t.regs.DI = stringStep s.flags 2 s.regs.DI ∧
      Frame s t [.di] statusFlags [])

/-- The repetition loop, one turn at a time, while the host asks for nothing: with CX = 0 nothing happens; else one iteration, CX one
less, and the loop ends on a compare whose ZF fails to match the prefix, or goes on (43_string.md R216). That CX = 0 runs no iteration is
decision D19 of the spec; the suspension point after the last iteration is log entry 23. -/
def Obligations.RepetitionUnrolls : Prop :=
  ∀ (i : Instr) (s : State), isStringInstr i = true → s.cur.rep ≠ .none → Quiet s →
    (s.regs.CX = 0 → exec i s = .next s) ∧
    (s.regs.CX ≠ 0 → ∃ t u, exec i { s with cur := { s.cur with rep := .none } } = .next t ∧
      u = { t with regs := { t.regs with CX := BitVec.ofInt 16 ((s.regs.CX.toNat : Int) - 1) }, cur := s.cur } ∧
      (comparesElements i = true ∧ zfMismatch s.cur.rep u.flags.ZF → exec i s = .next u) ∧
      (¬(comparesElements i = true ∧ zfMismatch s.cur.rep u.flags.ZF) → exec i s = exec i u))

/-- While the host asks for nothing a repeated string instruction comes to its end: CX is 0, or a compare has left a ZF that fails to
match the prefix. It changes CX, the pointers and the accumulator its iteration writes, the status flags if it compares, and of memory
only the first CX destination elements if it stores; everything else of the state is as before (43_string.md R211 to R216). That CX = 0
runs no iteration is decision D19 of the spec; the suspension point after the last iteration is log entry 23. -/
def Obligations.RepetitionEnds : Prop :=
  ∀ (i : Instr) (s : State), isStringInstr i = true → s.cur.rep ≠ .none → Quiet s →
    ∃ t, exec i s = .next t ∧
      (t.regs.CX = 0 ∨ (comparesElements i = true ∧ zfMismatch s.cur.rep t.flags.ZF)) ∧
      t.regs.CX.toNat ≤ s.regs.CX.toNat ∧
      t = { s with regs := t.regs, flags := t.flags, mem := t.mem } ∧
      (∀ p, p ∉ RegPart.byte .cl :: .byte .ch :: stringParts i → t.part p = s.part p) ∧
      (∀ f, f ∉ statusFlags → t.flags.get f = s.flags.get f) ∧
      (comparesElements i = false → t.flags = s.flags) ∧
      (i ∉ [.movsb, .movsw, .stosb, .stosw] → t.mem = s.mem) ∧
      (s.mem.wf = true → ∀ a : Phys, a ∉ s.stringStored i → t.mem.byteAt a = s.mem.byteAt a)

/-- A repeated STOSB upward fills its CX bytes and no others (43_string.md R214, R216). That CX = 0 runs no iteration is decision
D19 of the spec. -/
def Obligations.RepeatedStoreFills : Prop :=
  ∀ s : State, s.mem.wf = true → s.cur.rep ≠ .none → Quiet s → s.flags.DF = false →
    ∃ t, exec .stosb s = .next t ∧ t.regs.CX = 0 ∧ t.regs.DI = s.regs.DI + s.regs.CX ∧
      (∀ k : Nat, k < s.regs.CX.toNat → t.mem.read8 s.regs.ES (s.regs.DI + BitVec.ofNat 16 k) = s.reg8 .al) ∧
      Frame s t [.byte .cl, .byte .ch, .di] []
        ((List.range s.regs.CX.toNat).map fun k => phys s.regs.ES (s.regs.DI + BitVec.ofNat 16 k))

/-- A `Stop()` that arrives during a repetition loop ends the run after the iteration in progress: what the iterations did stays, IP stays
after the instruction, the rest is lost (43_string.md R216(e), 60_exceptions.md R374). That the rest is lost is decision D26 of the spec;
that the call arrives with the next suspension point is the model's choice, log entries 1 and 23. -/
def Obligations.StopAbandonsRepetition : Prop :=
  ∀ (i : Instr) (s t : State) (rest : List (List HostCall)), isStringInstr i = true → s.cur.rep ≠ .none → s.regs.CX ≠ 0 →
    s.run_state = .running → s.requested_state = .running → s.inbox = [.stop] :: rest →
    exec i { s with cur := { s.cur with rep := .none } } = .next t →
    ¬(comparesElements i = true ∧ zfMismatch s.cur.rep t.flags.ZF) →
    ∃ u, exec i s = .next u ∧ u.regs = { t.regs with CX := s.regs.CX - 1 } ∧ u.flags = t.flags ∧ u.mem = t.mem ∧
      u.regs.IP = s.regs.IP ∧ u.run_state = .stopped ∧ u.requested_state = .stopped ∧ u.pending = none ∧ u.inbox = rest ∧
      u.host_log = .stateChanged s.callbacks .stopped :: s.host_log

/-- A pause in a repetition loop cannot be seen in the result: paused after an iteration and resumed, the instruction leaves the
registers, flags and memory it leaves without the pause (43_string.md R216(e), 60_exceptions.md R374). How calls arrive and how a paused
loop is held are the model's choices, log entries 1 and 23. -/
def Obligations.PauseInRepetitionIsTransparent : Prop :=
  ∀ (i : Instr) (s t u : State), isStringInstr i = true → s.cur.rep ≠ .none → Quiet s →
    exec i s = .next t →
    exec i { s with inbox := [[.setPaused true], [.setPaused false]] } = .next u → u.run_state = .paused →
    ∃ v, step u = .next v ∧ v.regs = t.regs ∧ v.flags = t.flags ∧ v.mem = t.mem ∧ v.run_state = .running ∧ v.pending = none

/-! ## Transfers -/

/-- MOV between registers, memory and immediates: the destination takes the value of the source, nothing else changes (44_transfer.md R231
to R233). -/
def Obligations.MoveRegistersMemoryImmediates : Prop :=
  ∀ s : State, s.mem.wf = true →
    (∀ (d : Rm8) (i : Instr) (v : Byte),
      (∃ r, i = .movRm8R8 d r ∧ v = s.reg8 r) ∨ (∃ r rm, d = .reg r ∧ i = .movR8Rm8 r rm ∧ v = s.rm8 rm) ∨
        i = .movRm8Ib d v ∨ (∃ r, d = .reg r ∧ i = .movR8Ib r v) →
      ∃ t, exec i s = .next t ∧ t.get8 (s.loc8 d) = v ∧ Frame s t d.parts [] (s.stored8 d)) ∧
    (∀ (d : Rm16) (i : Instr) (v : Word),
      (∃ r, i = .movRm16R16 d r ∧ v = s.reg16 r) ∨ (∃ r rm, d = .reg r ∧ i = .movR16Rm16 r rm ∧ v = s.rm16 rm) ∨
        i = .movRm16Iw d v ∨ (∃ r, d = .reg r ∧ i = .movR16Iw r v) →
      ∃ t, exec i s = .next t ∧ t.get16 (s.loc16 d) = v ∧ Frame s t d.parts [] (s.stored16 d))

/-- MOV with a direct address and MOV of a segment register (44_transfer.md R234 to R237). That a write of CS takes effect at once is
decision D16 of the spec. -/
def Obligations.MoveDirectAndSegment : Prop :=
  ∀ (s : State) (moffs : Word), s.mem.wf = true →
    (∃ t, exec (.movAlMoffs moffs) s = .next t ∧ t.reg8 .al = s.mem.read8 (s.sreg (s.cur.seg.getD .ds)) moffs ∧
      Frame s t [.byte .al] [] []) ∧
    (∃ t, exec (.movAxMoffs moffs) s = .next t ∧ t.regs.AX = s.mem.read16 (s.sreg (s.cur.seg.getD .ds)) moffs ∧
      Frame s t [.byte .al, .byte .ah] [] []) ∧
    (∃ t, exec (.movMoffsAl moffs) s = .next t ∧ t.mem.read8 (s.sreg (s.cur.seg.getD .ds)) moffs = s.reg8 .al ∧
      Frame s t [] [] [phys (s.sreg (s.cur.seg.getD .ds)) moffs]) ∧
    (∃ t, exec (.movMoffsAx moffs) s = .next t ∧ t.mem.read16 (s.sreg (s.cur.seg.getD .ds)) moffs = s.regs.AX ∧
      Frame s t [] [] [phys (s.sreg (s.cur.seg.getD .ds)) moffs, phys (s.sreg (s.cur.seg.getD .ds)) moffs + 1]) ∧
    (∀ (rm : Rm16) (r : SReg), ∃ t, exec (.movRm16Sreg rm r) s = .next t ∧ t.get16 (s.loc16 rm) = s.sreg r ∧
      Frame s t rm.parts [] (s.stored16 rm)) ∧
    (∀ (rm : Rm16) (r : SReg), ∃ t, exec (.movSregRm16 r rm) s = .next t ∧ t.sreg r = s.rm16 rm ∧ Frame s t [.seg r] [] [])

/-- XCHG: the two operands change places, both read before either is written; nothing else changes (44_transfer.md R240, R241). The order
of XCHG is decision D38 of the spec. -/
def Obligations.ExchangeSwapsOperands : Prop :=
  ∀ s : State, s.mem.wf = true →
    (∀ (rm : Rm8) (r : Reg8), ∃ t, exec (.xchgRm8R8 rm r) s = .next t ∧ t.get8 (s.loc8 rm) = s.reg8 r ∧ t.reg8 r = s.rm8 rm ∧
      Frame s t (rm.parts ++ [.byte r]) [] (s.stored8 rm)) ∧
    (∀ (rm : Rm16) (r : Reg16), ∃ t, exec (.xchgRm16R16 rm r) s = .next t ∧ t.get16 (s.loc16 rm) = s.reg16 r ∧
      t.reg16 r = s.rm16 rm ∧ Frame s t (rm.parts ++ r.parts) [] (s.stored16 rm)) ∧
    (∀ r : Reg16, ∃ t, exec (.xchgAxR16 r) s = .next t ∧ t.regs.AX = s.reg16 r ∧ t.reg16 r = s.regs.AX ∧
      Frame s t (Reg16.parts .ax ++ r.parts) [] []) ∧
    exec (.xchgAxR16 .ax) s = .next s

/-- LEA writes the offset without touching memory; LDS and LES load a far pointer, both words read before a register is written
(44_transfer.md R243 to R245, 20_memory.md R86). The place of the second word is decision D36 of the spec. -/
def Obligations.AddressLoads : Prop :=
  ∀ (s : State) (r : Reg16) (m : MemOp),
    (∃ t, exec (.leaR16M r m) s = .next t ∧ t.reg16 r = s.ea m ∧ Frame s t r.parts [] []) ∧
    (∃ t, exec (.ldsR16M r m) s = .next t ∧ t.reg16 r = s.mem.read16 (s.memSeg m) (s.ea m) ∧
      t.regs.DS = s.mem.read16 (s.memSeg m) (s.ea m + 2) ∧ Frame s t (.seg .ds :: r.parts) [] []) ∧
    (∃ t, exec (.lesR16M r m) s = .next t ∧ t.reg16 r = s.mem.read16 (s.memSeg m) (s.ea m) ∧
      t.regs.ES = s.mem.read16 (s.memSeg m) (s.ea m + 2) ∧ Frame s t (.seg .es :: r.parts) [] [])

/-- Every push: SP goes down by 2 and the word lies at the new `SS:SP`; `PUSH SP` stores the new SP; nothing else changes (20_memory.md
R70, 44_transfer.md R248 to R250, R254). That `PUSH SP` stores the new SP is decision D13 of the spec, log entry 9. -/
def Obligations.PushesStoreOneWord : Prop :=
  ∀ (s : State) (i : Instr) (v : Word), s.mem.wf = true →
    (∃ r, i = .pushR16 r ∧ v = (if r = .sp then s.regs.SP - 2 else s.reg16 r)) ∨
      (∃ r, i = .pushRm16 (.reg r) ∧ v = (if r = .sp then s.regs.SP - 2 else s.reg16 r)) ∨
      (∃ m, i = .pushRm16 (.mem m) ∧ v = s.mem.read16 (s.memSeg m) (s.ea m)) ∨
      (i = .pushEs ∧ v = s.regs.ES) ∨ (i = .pushCs ∧ v = s.regs.CS) ∨ (i = .pushSs ∧ v = s.regs.SS) ∨
      (i = .pushDs ∧ v = s.regs.DS) ∨ (i = .pushf ∧ v = s.flags.pack) →
    ∃ t, exec i s = .next t ∧ t.regs.SP = s.regs.SP - 2 ∧ t.mem.read16 s.regs.SS (s.regs.SP - 2) = v ∧
      Frame s t [.sp] [] s.pushSlot

/-- Every pop: the word at `SS:SP` goes to the destination and SP goes up by 2 (`POP SP` keeps the word); nothing else changes
(20_memory.md R71, 44_transfer.md R251 to R253, R255). The address of `POP m` before the pop is decision D37 of the spec. -/
def Obligations.PopsLoadOneWord : Prop :=
  ∀ (s : State) (w : Word), s.mem.wf = true → w = s.mem.read16 s.regs.SS s.regs.SP →
    (∀ (i : Instr) (d : Rm16), i = .popRm16 d ∨ (∃ r, d = .reg r ∧ i = .popR16 r) →
      ∃ t, exec i s = .next t ∧ t.get16 (s.loc16 d) = w ∧ (d ≠ .reg .sp → t.regs.SP = s.regs.SP + 2) ∧
        Frame s t (.sp :: d.parts) [] (s.stored16 d)) ∧
    (∀ (i : Instr) (r : SReg), (i = .popEs ∧ r = .es) ∨ (i = .popSs ∧ r = .ss) ∨ (i = .popDs ∧ r = .ds) →
      ∃ t, exec i s = .next t ∧ t.sreg r = w ∧ t.regs.SP = s.regs.SP + 2 ∧ Frame s t [.sp, .seg r] [] []) ∧
    (∃ t, exec .popf s = .next t ∧ t.flags = Flags.unpack w ∧ t.regs.SP = s.regs.SP + 2 ∧
      Frame s t [.sp] (.df :: .if_ :: .tf :: statusFlags) [])

/-- `PUSH x; POP y` leaves x in y and SP as it was (20_memory.md R71). -/
def Obligations.PushThenPopMovesTheWord : Prop :=
  ∀ (s : State) (x y : Reg16), s.mem.wf = true → x ≠ .sp → y ≠ .sp →
    ∃ t u, exec (.pushR16 x) s = .next t ∧ exec (.popR16 y) t = .next u ∧ u.reg16 y = s.reg16 x ∧ u.regs.SP = s.regs.SP ∧
      Frame s u y.parts [] s.pushSlot

/-! ## Control flow -/

/-- The sixteen conditional jumps and JCXZ: two bytes, the opcode and the signed byte; taken exactly when the predicate holds, to IP plus
the signed byte; no flag and nothing else changes (45_control_flow.md R276). -/
def Obligations.ConditionalJumps : Prop :=
  ∀ (s : State) (rel : Byte) (target : Word), target = BitVec.ofInt 16 (s.regs.IP.toNat + rel.toInt) →
    (∀ c : Cond, (c.Taken s.flags → exec (c.instr rel) s = .next { s with regs := { s.regs with IP := target } }) ∧
      (¬c.Taken s.flags → exec (c.instr rel) s = .next s) ∧
      decode [c.opcode, rel] = .ok (c.instr rel) []) ∧
    decode [0xE3, rel] = .ok (.jcxz rel) [] ∧
    (s.regs.CX = 0 → exec (.jcxz rel) s = .next { s with regs := { s.regs with IP := target } }) ∧
    (s.regs.CX ≠ 0 → exec (.jcxz rel) s = .next s)

/-- LOOP LOOPE LOOPNE: CX one less with no flag written, and the jump taken when CX is not 0 and ZF is as the mnemonic asks
(45_control_flow.md R278 to R280). That no flag is written is decision D34 of the spec. -/
def Obligations.LoopsCountDown : Prop :=
  ∀ (s : State) (rel : Byte) (cx target : Word), cx = BitVec.ofInt 16 ((s.regs.CX.toNat : Int) - 1) →
    target = BitVec.ofInt 16 (s.regs.IP.toNat + rel.toInt) →
    exec (.loop rel) s = .next { s with regs := { s.regs with CX := cx, IP := if cx ≠ 0 then target else s.regs.IP } } ∧
    exec (.loope rel) s =
      .next { s with regs := { s.regs with CX := cx, IP := if cx ≠ 0 ∧ s.flags.ZF = true then target else s.regs.IP } } ∧
    exec (.loopne rel) s =
      .next { s with regs := { s.regs with CX := cx, IP := if cx ≠ 0 ∧ s.flags.ZF = false then target else s.regs.IP } }

/-- The five unconditional jumps: IP, and CS for the far forms, and nothing else (45_control_flow.md R271 to R275). The order of the two
words is decisions D30 and D36 of the spec. -/
def Obligations.UnconditionalJumps : Prop :=
  ∀ s : State,
    (∀ rel : Byte, exec (.jmpRel8 rel) s =
      .next { s with regs := { s.regs with IP := BitVec.ofInt 16 (s.regs.IP.toNat + rel.toInt) } }) ∧
    (∀ rel : Word, exec (.jmpRel16 rel) s =
      .next { s with regs := { s.regs with IP := BitVec.ofInt 16 (s.regs.IP.toNat + rel.toInt) } }) ∧
    (∀ off seg : Word, exec (.jmpPtr off seg) s = .next { s with regs := { s.regs with CS := seg, IP := off } }) ∧
    (∀ rm : Rm16, exec (.jmpRm16 rm) s = .next { s with regs := { s.regs with IP := s.rm16 rm } }) ∧
    (∀ m : MemOp, exec (.jmpM16 m) s = .next { s with regs := { s.regs with
      CS := s.mem.read16 (s.memSeg m) (s.ea m + 2), IP := s.mem.read16 (s.memSeg m) (s.ea m) } })

/-- The four calls: the return address is pushed (CS, then IP, for the far forms), the target read before; nothing else changes
(45_control_flow.md R281 to R284). The orders are decisions D30, D35 and D36 of the spec. -/
def Obligations.CallsPushTheReturnAddress : Prop :=
  ∀ s : State, s.mem.wf = true →
    (∀ (i : Instr) (target : Word), (∃ rel : Word, i = .callRel16 rel ∧ target = BitVec.ofInt 16 (s.regs.IP.toNat + rel.toInt)) ∨
        (∃ rm, i = .callRm16 rm ∧ target = s.rm16 rm) →
      ∃ t, exec i s = .next t ∧ t.regs.IP = target ∧ t.regs.SP = s.regs.SP - 2 ∧
        t.mem.read16 s.regs.SS (s.regs.SP - 2) = s.regs.IP ∧ Frame s t [.sp, .ip] [] s.pushSlot) ∧
    (∀ (i : Instr) (seg off : Word), i = .callPtr off seg ∨ (∃ m, i = .callM16 m ∧
        off = s.mem.read16 (s.memSeg m) (s.ea m) ∧ seg = s.mem.read16 (s.memSeg m) (s.ea m + 2)) →
      ∃ t, exec i s = .next t ∧ t.regs.CS = seg ∧ t.regs.IP = off ∧ t.regs.SP = s.regs.SP - 4 ∧
        t.mem.read16 s.regs.SS (s.regs.SP - 2) = s.regs.CS ∧ t.mem.read16 s.regs.SS (s.regs.SP - 4) = s.regs.IP ∧
        Frame s t [.sp, .ip, .seg .cs] [] s.pushSlots2)

/-- The four returns: IP, and CS for the far forms, from the stack; SP past them and past `iw` bytes more; nothing else changes
(45_control_flow.md R285 to R288). The order of the pops is decision D30 of the spec. -/
def Obligations.ReturnsPopTheAddress : Prop :=
  ∀ (s : State) (iw ip cs : Word), ip = s.mem.read16 s.regs.SS s.regs.SP → cs = s.mem.read16 s.regs.SS (s.regs.SP + 2) →
    exec .ret s = .next { s with regs := { s.regs with IP := ip, SP := s.regs.SP + 2 } } ∧
    exec (.retIw iw) s = .next { s with regs := { s.regs with IP := ip, SP := s.regs.SP + 2 + iw } } ∧
    exec .retf s = .next { s with regs := { s.regs with IP := ip, CS := cs, SP := s.regs.SP + 4 } } ∧
    exec (.retfIw iw) s = .next { s with regs := { s.regs with IP := ip, CS := cs, SP := s.regs.SP + 4 + iw } }

/-! ## Interrupts -/

/-- The entry of a dispatch: FLAGS, CS, IP pushed in this order, IF and TF cleared, nothing else changed (60_exceptions.md R340). That TF
is stored is decision D6 of the spec, the form of the dispatch D8 and D24. -/
def Obligations.DispatchEntryPushesThreeWords : Prop :=
  ∀ s : State, s.mem.wf = true →
    s.enterInterrupt.regs.SP = s.regs.SP - 6 ∧
    s.enterInterrupt.mem.read16 s.regs.SS (s.regs.SP - 2) = s.flags.pack ∧
    s.enterInterrupt.mem.read16 s.regs.SS (s.regs.SP - 4) = s.regs.CS ∧
    s.enterInterrupt.mem.read16 s.regs.SS (s.regs.SP - 6) = s.regs.IP ∧
    s.enterInterrupt.flags.IF = false ∧ s.enterInterrupt.flags.TF = false ∧
    Frame s s.enterInterrupt [.sp] [.if_, .tf] s.pushSlots3

/-- What becomes of `INT ib` and `INT3`, by the layer's answer: `Handled` commits its registers, flags and memory and the run goes on;
`Terminate` ends the run with the pushes in place; `NotHandled` and `HostIOError` are fatal and roll everything back (60_exceptions.md
R340, 46_interrupt_instr.md R311, R312). The four answers and what `Terminate` leaves are decision D8 of the spec, the rollback is
decision D20, and that `CC` is `INT3` is decision D1. That the core pops nothing after `Handled` is decision D9 of the spec, log entry
9; that a fatal error is a next state is log entry 3. -/
def Obligations.InterruptsByAnswer : Prop :=
  ∀ (s : State) (i : Instr) (vector : Byte) (a : Answer),
    i = .intIb vector ∨ (i = .int3 ∧ vector = 3) →
    a = (intLayer vector s.MSDOS_ENABLED s.nextChoice s.draws s.enterInterrupt.view).answer →
    (∀ v, a = .handled v → ∃ t, exec i s = .next t ∧ t.regs = v.regs ∧ t.flags = v.flags ∧ t.mem = v.mem ∧
      t.run_state = s.run_state ∧ t.LAST_CS = s.LAST_CS ∧ t.LAST_IP = s.LAST_IP) ∧
    (a = .terminate → ∃ t, exec i s = .next t ∧ t.regs = s.enterInterrupt.regs ∧ t.flags = s.enterInterrupt.flags ∧
      t.mem = s.enterInterrupt.mem ∧ t.run_state = .stopped ∧ t.requested_state = .stopped ∧
      t.host_log.head? = some (.stateChanged s.callbacks .stopped)) ∧
    (∀ e, (a = .notHandled ∧ e = .unhandledInterrupt vector (s.reg8 .ah)) ∨ (∃ msg, a = .hostIOError msg ∧ e = .hostIOError msg) →
      ∃ t, exec i s = .next t ∧ t.regs = { s.regs with CS := s.LAST_CS, IP := s.LAST_IP } ∧ t.flags = s.flags ∧ t.mem = s.mem ∧
        t.run_state = .stopped ∧ t.requested_state = .stopped ∧ t.host_log.head? = some (.fatal e))

/-- IRET pops IP, CS and the nine flags (46_interrupt_instr.md R313). That TF is restored is decision D6 of the spec. -/
def Obligations.InterruptReturnPopsThreeWords : Prop :=
  ∀ (s : State) (ip cs w : Word), ip = s.mem.read16 s.regs.SS s.regs.SP → cs = s.mem.read16 s.regs.SS (s.regs.SP + 2) →
    w = s.mem.read16 s.regs.SS (s.regs.SP + 4) →
    exec .iret s = .next { s with
      regs := { s.regs with IP := ip, CS := cs, SP := s.regs.SP + 6 }
      flags := { CF := w.toNat.testBit 0, PF := w.toNat.testBit 2, AF := w.toNat.testBit 4, ZF := w.toNat.testBit 6,
                 SF := w.toNat.testBit 7, TF := w.toNat.testBit 8, IF := w.toNat.testBit 9, DF := w.toNat.testBit 10,
                 OF := w.toNat.testBit 11 } }

/-- A conforming layer keeps CS, IP, SS, SP, BP, SI, DI, DS, ES and the flags IF, TF, DF, AF, PF, SF, OF, and every byte of memory outside
the text buffer (video services) and the buffers that the disk read and the file read name; it answers `NotHandled` for every pair of
vector and AH that R351 to R362 do not list, and is bound by MSDOS_ENABLED for vector 21h (60_exceptions.md R349, R350). The frame is
decision D41 of the spec, log entries 5 and 21. -/
def Obligations.ConformingLayerFrame : Prop :=
  ∀ (vector : Byte) (msdos : Bool) (w : World) (draw : Nat) (v : View) (a : Answer),
    a = (intLayer vector msdos (.conforming w) draw v).answer →
    (∀ u, a = .handled u →
      u.regs = { v.regs with AX := u.regs.AX, CX := u.regs.CX, DX := u.regs.DX } ∧
      u.flags = { v.flags with CF := u.flags.CF, ZF := u.flags.ZF } ∧
      (v.mem.wf = true → ∀ p : Phys, ¬InServiceBuffer vector v p → u.mem.byteAt p = v.mem.byteAt p)) ∧
    ((vector, v.regs.get8 .ah) ∉ servedPairs → a = .notHandled) ∧
    (vector = 0x21 → msdos = false → a = .notHandled)

/-- The services that 60_exceptions.md R351 to R362 list, run through `INT` while their backends do not fail: their outputs, and the calls
of the backends that the model's layer makes. Video (R351, R352, R354 to R356): no register; the cursor (R353): row and column in DX, CX
zero; the disk (R357): CF, AH, and on success the sectors at ES:BX; the keyboard (R358); the ticks (R359); a character and a dollar
string (R360); the default drive, the version, and opening, reading and seeking a file (R361); and the end of the program (R362). `e` is
the state after the pushes, which the layer sees; that they stay on the stack is decision D9 of the spec, log entry 9. The frame is
decision D41. The model's choices, not the rules': the exact backend calls, log entry 18 (one `writeChar` for AH=09 and 0A, where R355
names no backend; one `moveCursor`, where R352 offers two forms; one `readSectors`, `openFile`, `readFile`, `seekFile`; none for the ticks,
drive and version); that strings of any length below 65536 are served, log entry 12 (the spec leaves the bound of the view open, and says
not to assume 64 KiB, N7); how the outside answers, log entries 5 and 6; and the details that the rules leave open, log entries 21 and 29. -/
def Obligations.DocumentedServices : Prop :=
  ∀ (s e : State) (w : World) (rest : List Choice), s.choices = .conforming w :: rest → w.ioError = none → e = s.enterInterrupt →
    (∀ call : BackendCall,
      (s.reg8 .ah = 0x00 ∧ call = .setMode (s.reg8 .al)) ∨ (s.reg8 .ah = 0x02 ∧ call = .moveCursor (s.reg8 .dh) (s.reg8 .dl)) ∨
        (s.reg8 .ah = 0x06 ∧ call = .scroll (s.reg8 .al) (s.reg8 .bh)) ∨
        ((s.reg8 .ah = 0x09 ∨ s.reg8 .ah = 0x0A) ∧
          call = .writeChar (s.reg8 .ah) (s.reg8 .al) (s.reg8 .bh) (s.reg8 .bl) s.regs.CX) ∨
        (s.reg8 .ah = 0x0E ∧ call = .ttyWrite (s.reg8 .al)) →
      ∃ t, exec (.intIb 0x10) s = .next t ∧ t.regs = e.regs ∧ t.flags = e.flags ∧ t.host_log = .backend call :: s.host_log) ∧
    (s.reg8 .ah = 0x03 → ∃ t, exec (.intIb 0x10) s = .next t ∧ t.reg8 .dh = w.row ∧ t.reg8 .dl = w.column ∧
      t.regs = { e.regs with CX := 0, DX := t.regs.DX } ∧ t.flags = e.flags ∧
      t.host_log = .backend .readCursor :: s.host_log) ∧
    (s.reg8 .ah = 0x02 → w.success = true → ∃ t, exec (.intIb 0x13) s = .next t ∧
      t.reg8 .ah = 0 ∧ t.reg8 .al = s.reg8 .al ∧ t.regs = { e.regs with AX := t.regs.AX } ∧
      t.flags = { e.flags with CF := false } ∧
      t.host_log = .backend (.readSectors (s.reg8 .al) (s.reg8 .ch) (s.reg8 .cl) (s.reg8 .dh) (s.reg8 .dl)) :: s.host_log ∧
      (s.mem.wf = true → ∀ k : Nat, k < (s.reg8 .al).toNat * 512 → (s.reg8 .al).toNat * 512 ≤ 65536 + k → k < w.data.length →
        t.mem.read8 s.regs.ES (s.regs.BX + BitVec.ofNat 16 k) = w.data.getD k 0)) ∧
    (s.reg8 .ah = 0x02 → w.success = false → ∃ t, exec (.intIb 0x13) s = .next t ∧
      t.reg8 .ah ≠ 0 ∧ t.reg8 .al = s.reg8 .al ∧ t.regs = { e.regs with AX := t.regs.AX } ∧
      t.flags = { e.flags with CF := true } ∧
      t.host_log = .backend (.readSectors (s.reg8 .al) (s.reg8 .ch) (s.reg8 .cl) (s.reg8 .dh) (s.reg8 .dl)) :: s.host_log) ∧
    (s.reg8 .ah = 0x00 → w.keyComes = true → ∃ t, exec (.intIb 0x16) s = .next t ∧
      t.reg8 .ah = w.scancode ∧ t.reg8 .al = w.ascii ∧ t.regs = { e.regs with AX := t.regs.AX } ∧ t.flags = e.flags ∧
      t.mem = e.mem ∧ t.host_log = .backend .readKey :: s.host_log) ∧
    (s.reg8 .ah = 0x01 → ∃ t, exec (.intIb 0x16) s = .next t ∧ t.flags = { e.flags with ZF := !w.keyWaiting } ∧
      t.regs = { e.regs with AX := t.regs.AX } ∧ t.mem = e.mem ∧ t.host_log = .backend .peekKey :: s.host_log ∧
      (w.keyWaiting = true → t.reg8 .ah = w.scancode ∧ t.reg8 .al = w.ascii) ∧
      (w.keyWaiting = false → t.regs = e.regs)) ∧
    (s.reg8 .ah = 0x00 → ∃ t, exec (.intIb 0x1A) s = .next t ∧
      t.regs.CX.toNat * 2 ^ 16 + t.regs.DX.toNat = w.ticks.toNat ∧ t.regs = { e.regs with CX := t.regs.CX, DX := t.regs.DX } ∧
      t.flags = e.flags ∧ t.mem = e.mem ∧ t.host_log = s.host_log) ∧
    (s.MSDOS_ENABLED = true →
      (s.reg8 .ah = 0x02 → ∃ t, exec (.intIb 0x21) s = .next t ∧ t.regs = e.regs ∧ t.flags = e.flags ∧ t.mem = e.mem ∧
        t.host_log = .backend (.ttyWrite (s.reg8 .dl)) :: s.host_log) ∧
      (∀ str : List Byte, s.reg8 .ah = 0x09 → str.length < 65536 → 0x24 ∉ str →
        (∀ k : Nat, k < str.length → e.mem.read8 s.regs.DS (s.regs.DX + BitVec.ofNat 16 k) = str.getD k 0) →
        e.mem.read8 s.regs.DS (s.regs.DX + BitVec.ofNat 16 str.length) = 0x24 →
        ∃ t, exec (.intIb 0x21) s = .next t ∧ t.regs = e.regs ∧ t.flags = e.flags ∧ t.mem = e.mem ∧
          t.host_log = (str.map fun c => HostEvent.backend (.ttyWrite c)).reverse ++ s.host_log) ∧
      (s.reg8 .ah = 0x19 → ∃ t, exec (.intIb 0x21) s = .next t ∧ t.regs = { e.regs with AX := 0x1900 } ∧ t.flags = e.flags ∧
        t.mem = e.mem ∧ t.host_log = s.host_log) ∧
      (s.reg8 .ah = 0x30 → ∃ t, exec (.intIb 0x21) s = .next t ∧ t.regs = { e.regs with AX := 0x0005 } ∧ t.flags = e.flags ∧
        t.mem = e.mem ∧ t.host_log = s.host_log) ∧
      (∀ path : List Byte, s.reg8 .ah = 0x3D → path.length < 65536 → 0 ∉ path →
        (∀ k : Nat, k < path.length → e.mem.read8 s.regs.DS (s.regs.DX + BitVec.ofNat 16 k) = path.getD k 0) →
        e.mem.read8 s.regs.DS (s.regs.DX + BitVec.ofNat 16 path.length) = 0 →
        ∃ t, exec (.intIb 0x21) s = .next t ∧
          t.regs = { e.regs with AX := if w.success then w.handle else w.errorCode } ∧
          t.flags = { e.flags with CF := !w.success } ∧ t.mem = e.mem ∧
          t.host_log = .backend (.openFile path (s.reg8 .al)) :: s.host_log) ∧
      (s.reg8 .ah = 0x3F → ∃ t, exec (.intIb 0x21) s = .next t ∧
        t.regs = { e.regs with AX := BitVec.ofNat 16 (min w.data.length s.regs.CX.toNat) } ∧
        t.flags = { e.flags with CF := w.carry } ∧
        t.host_log = .backend (.readFile s.regs.BX s.regs.CX) :: s.host_log ∧
        (s.mem.wf = true → ∀ k : Nat, k < w.data.length → k < s.regs.CX.toNat →
          t.mem.read8 s.regs.DS (s.regs.DX + BitVec.ofNat 16 k) = w.data.getD k 0)) ∧
      (s.reg8 .ah = 0x42 → ∃ t, exec (.intIb 0x21) s = .next t ∧
        t.regs.DX.toNat * 2 ^ 16 + t.regs.AX.toNat = w.position.toNat ∧
        t.regs = { e.regs with AX := t.regs.AX, DX := t.regs.DX } ∧ t.flags = e.flags ∧ t.mem = e.mem ∧
        t.host_log = .backend (.seekFile s.regs.BX (s.reg8 .al) (s.regs.CX ++ s.regs.DX)) :: s.host_log) ∧
      (s.reg8 .ah = 0x4C → ∃ t, exec (.intIb 0x21) s = .next t ∧ t.run_state = .stopped ∧ t.fatalError? = none ∧
        t.regs = e.regs ∧ t.flags = e.flags ∧ t.mem = e.mem))

/-! ## Flags, prefixes, refused encodings -/

/-- CLC STC CMC CLD STD CLI STI: one flag each, and nothing else (47_flag_control.md R320 to R326). That these instructions exist is
decision D1 of the spec. -/
def Obligations.FlagInstructions : Prop :=
  ∀ s : State,
    exec .clc s = .next { s with flags := { s.flags with CF := false } } ∧
    exec .stc s = .next { s with flags := { s.flags with CF := true } } ∧
    exec .cmc s = .next { s with flags := { s.flags with CF := !s.flags.CF } } ∧
    exec .cld s = .next { s with flags := { s.flags with DF := false } } ∧
    exec .std s = .next { s with flags := { s.flags with DF := true } } ∧
    exec .cli s = .next { s with flags := { s.flags with IF := false } } ∧
    exec .sti s = .next { s with flags := { s.flags with IF := true } }

/-- Each prefix byte sets its part of the instruction being decoded, and nothing else; of any number of prefixes in any order the last of
each kind wins, and the kinds do not disturb each other (30_encoding.md R91 to R93). That their number has no bound is decision D25 of the
spec; prefixes as instructions of their own are the model's choice, log entry 10. -/
def Obligations.PrefixesAccumulate : Prop :=
  ∀ s : State,
    exec .prefixEs s = .next { s with cur := { s.cur with seg := some .es } } ∧
    exec .prefixCs s = .next { s with cur := { s.cur with seg := some .cs } } ∧
    exec .prefixSs s = .next { s with cur := { s.cur with seg := some .ss } } ∧
    exec .prefixDs s = .next { s with cur := { s.cur with seg := some .ds } } ∧
    exec .prefixRepnz s = .next { s with cur := { s.cur with rep := .repNZ } } ∧
    exec .prefixRep s = .next { s with cur := { s.cur with rep := .rep } } ∧
    ∀ ps : List Instr, (∀ p ∈ ps, p.isPrefix = true) →
      execAll ps s = .next { s with cur := { s.cur with
        seg := match (ps.filterMap Instr.segmentOf?).getLast? with
          | some r => some r
          | none => s.cur.seg
        rep := match (ps.filterMap Instr.repetitionOf?).getLast? with
          | some r => r
          | none => s.cur.rep } }

/-- Every UNIMPL row, and every refused form, ends the run: registers, flags and memory as they were with CS:IP back at `LAST_CS:LAST_IP`,
Stopped, the callbacks called, and the error with its bytes and address handed to the host (30_encoding.md R109, 60_exceptions.md R332).
The rollback is decision D20 of the spec; that a fatal error is a next state is log entry 3. -/
def Obligations.RefusedEncodingsAreFatal : Prop :=
  ∀ (i : Instr) (k : DecodeErrorKind) (s : State), i.decodeError? = some k →
    ∃ t, exec i s = .next t ∧ t.regs = { s.regs with CS := s.LAST_CS, IP := s.LAST_IP } ∧ t.flags = s.flags ∧ t.mem = s.mem ∧
      t.LAST_CS = s.LAST_CS ∧ t.LAST_IP = s.LAST_IP ∧ t.run_state = .stopped ∧ t.requested_state = .stopped ∧
      t.callbacks = s.callbacks ∧
      t.host_log = .fatal (k.error s.cur.bytes s.LAST_CS s.LAST_IP) :: .stateChanged s.callbacks .stopped :: s.host_log

/-! ## The whole machine -/

/-- Power-on (10_state.md R48), and that no instruction can run in this state: a step stands still, and a `Start()` has no effect, for the
core starts ticking only after a boot entry (R48, 70_reset_and_hazards.md R390). TF, the requested state and the callbacks are decision
D22 of the spec, log entry 15; that a step stands still is the model's choice, log entry 24; that the `Start()` is ignored, and no error,
is read from R48 by inference, log entry 28. -/
def Obligations.ResetIsPowerOn : Prop :=
  (∀ r : Reg16, State.reset.reg16 r = 0) ∧ (∀ r : SReg, State.reset.sreg r = 0) ∧ State.reset.regs.IP = 0 ∧
  (∀ f : FlagName, State.reset.flags.get f = false) ∧
  State.reset.LAST_CS = 0 ∧ State.reset.LAST_IP = 0 ∧ State.reset.run_state = .stopped ∧
  State.reset.requested_state = .stopped ∧ State.reset.callbacks = [] ∧ State.reset.booted = false ∧
  (∀ a : Phys, State.reset.mem.byteAt a = 0) ∧ step State.reset = .next State.reset ∧
  ∀ rest : List (List HostCall),
    step { State.reset with inbox := [.start] :: rest } = .next { State.reset with inbox := rest }

/-- The invariant holds at reset. The invariant speaks of the model's own fields too, log entries 10, 13, 14, 23 and 28. -/
def Obligations.InvariantAtReset : Prop := Inv State.reset

/-- Every step keeps the invariant: the canonical form of memory, that nothing is in flight between steps but a paused repetition loop
(10_state.md R46, R47), and that the core is Stopped until a boot entry has loaded an image (R48). The invariant speaks of the model's own
fields too, log entries 10, 13, 14, 23 and 28. -/
def Obligations.InvariantKeptByEveryStep : Prop :=
  ∀ s t : State, Inv s → step s = .next t → Inv t

/-- A step runs the decoded instruction: when the machine is Running after the suspension point and no loop waits to be resumed, and the
bytes from CS:IP are prefixes `ps` and a well-formed instruction `i`, then `LAST_CS:LAST_IP` take CS:IP, IP moves past all the bytes,
the prefixes and the instruction are executed, and the record of the instruction is emptied (60_exceptions.md R371). When a loop waits to
be resumed, the step goes on with it, without a fetch and with `LAST_CS:LAST_IP` as they are (R374, 43_string.md R216). The suspension
point as the place where calls arrive is the model's choice, log entry 1; prefixes executed as instructions and the record that is
emptied are log entry 10; the loop that waits, with the record kept, is log entry 23. -/
def Obligations.StepRunsTheDecodedInstruction : Prop :=
  (∀ (s u : State) (ps : List Instr) (i : Instr) (bytes : List Byte),
    s.run_state ≠ .stopped → u = s.suspend → u.run_state = .running → u.pending = none →
    (∀ p ∈ ps, p.isPrefix = true) → i.isPrefix = false → i.wf = true → ps.length < 65536 →
    bytes = ps.flatMap encode ++ encode i →
    (∀ k : Nat, k < bytes.length → u.mem.read8 u.regs.CS (u.regs.IP + BitVec.ofNat 16 k) = bytes.getD k 0) →
    ∀ start : State, start = { u with
        LAST_CS := u.regs.CS, LAST_IP := u.regs.IP
        regs := { u.regs with IP := u.regs.IP + BitVec.ofNat 16 bytes.length }
        cur := { bytes := bytes, seg := none, rep := .none } } →
      (∀ t, execAll (ps ++ [i]) start = .next t → step s = .next (if t.pending = none then { t with cur := InFlight.empty } else t)) ∧
      (∀ r, execAll (ps ++ [i]) start = .fault r → step s = .fault r)) ∧
  (∀ (s u : State) (i : Instr), s.run_state ≠ .stopped → u = s.suspend → u.run_state = .running → u.pending = some i →
    (∀ t, exec i { u with pending := none } = .next t →
      step s = .next (if t.pending = none then { t with cur := InFlight.empty } else t)) ∧
    (∀ r, exec i { u with pending := none } = .fault r → step s = .fault r))

/-- No instruction but `INT ib`, `INT3` and `DIV` can fail to complete, and none is refused: memory and the stack never fault
(60_exceptions.md R333). That a fatal error is a next state is the model's choice, log entry 3. -/
def Obligations.OnlyDispatchesCanStop : Prop :=
  ∀ (i : Instr) (s : State), (dispatches i = false → ∃ t, exec i s = .next t) ∧ (∀ r, exec i s ≠ .refused r)

/-- A tick that ends in a fatal error leaves registers, flags and memory as before it, with `LAST_CS:LAST_IP` at the failing
instruction, and the machine Stopped: no instruction is partially committed (60_exceptions.md R332, R334). This is so of every step, one
that takes host calls or resumes a loop among them: `s.suspend` is the state after the suspension point, and the premise says that the
step has logged something since. The rollback is decision D20 of the spec; that a fatal error is a next state is log entry 3; how calls
arrive is log entry 1. -/
def Obligations.FatalTickRollsBack : Prop :=
  ∀ (s t : State) (e : FatalError), Inv s → step s = .next t → t.host_log ≠ s.suspend.host_log → t.fatalError? = some e →
    t.regs = s.regs ∧ t.flags = s.flags ∧ t.mem = s.mem ∧ t.LAST_CS = s.regs.CS ∧ t.LAST_IP = s.regs.IP ∧
      t.run_state = .stopped ∧ t.requested_state = .stopped ∧ t.callbacks = s.suspend.callbacks

/-- A tick writes `LAST_CS:LAST_IP` with the address of the instruction it runs, and no instruction writes them (10_state.md R40). -/
def Obligations.LastRegistersHoldTheInstruction : Prop :=
  (∀ s t : State, s.pending = none → Quiet s → step s = .next t → t.LAST_CS = s.regs.CS ∧ t.LAST_IP = s.regs.IP) ∧
  ∀ (i : Instr) (s t : State), Quiet s → exec i s = .next t → t.LAST_CS = s.LAST_CS ∧ t.LAST_IP = s.LAST_IP

/-- Who writes DF, and who writes CS, among the instructions that neither dispatch nor are refused: POPF, IRET, CLD, STD write DF; far
jumps, calls and returns, IRET and `MOV CS` write CS (10_state.md R24, R35). -/
def Obligations.WritersOfDirectionAndCodeSegment : Prop :=
  ∀ (i : Instr) (s t : State), Quiet s → exec i s = .next t → dispatches i = false → i.decodeError? = none →
    (t.flags.DF ≠ s.flags.DF → i ∈ [.popf, .iret, .cld, .std]) ∧
    (t.regs.CS ≠ s.regs.CS → i ∈ [.iret, .retf] ∨ (∃ off seg, i = .jmpPtr off seg) ∨ (∃ m, i = .jmpM16 m) ∨
      (∃ off seg, i = .callPtr off seg) ∨ (∃ m, i = .callM16 m) ∨ (∃ iw, i = .retfIw iw) ∨ (∃ rm, i = .movSregRm16 .cs rm))

/-- The run state follows the host. While Stopped, a step runs no instruction and leaves the run state only for a `Start()`; with no image
loaded by a boot entry before or in the batch it does not leave it at all; while Paused, with no call that ends the pause, no register,
flag or memory byte changes. `Start()` while Stopped enters Running once a boot entry has loaded an image, and is ignored otherwise; a
`Stop()` seen at a suspension point before a fetch, or while Paused, ends the run, and no `SetPaused` overwrites it;
`SetPaused(true)` seen there while Running is requested pauses; `SetPaused(false)` while Paused enters Running and the same step goes on
with the tick or the loop; `SetPaused` while Stopped does nothing. Each change calls the registered callbacks once. Registering a callback
adds a fresh handle and returns it, unregistering removes the handle (60_exceptions.md R372 to R374, R376, 10_state.md R47). What the
calls do in a state that does not admit them is decision D39 of the spec, the identity of callbacks decision D32; how calls arrive is the
model's choice, log entries 1 and 24, and so are the numbers of the handles, log entry 14. That a `Start()` with no image loaded is ignored
is read from 10_state.md R48 and 70_reset_and_hazards.md R390 by inference, log entry 28. -/
def Obligations.RunStateFollowsTheHost : Prop :=
  (∀ s : State, s.run_state = .stopped → ∃ t, step s = .next t ∧
    (t.run_state ≠ .stopped → HostCall.start ∈ s.inbox.headD []) ∧
    ((∀ c ∈ s.inbox.headD [], (∀ b, c ≠ .bootFloppy b) ∧ (∀ g b, c ≠ .bootCom g b)) →
      t.regs = s.regs ∧ t.flags = s.flags ∧ t.mem = s.mem ∧ t.booted = s.booted ∧ (s.booted = false → t.run_state = .stopped))) ∧
  (∀ s : State, s.run_state = .paused → s.requested_state = .paused →
    (∀ c ∈ s.inbox.headD [], c ≠ .stop ∧ c ≠ .setPaused false) →
    ∃ t, step s = .next t ∧ t.run_state = .paused ∧ t.regs = s.regs ∧ t.flags = s.flags ∧ t.mem = s.mem) ∧
  (∀ (s : State) (rest : List (List HostCall)), s.run_state = .stopped → s.booted = true → s.inbox = [.start] :: rest →
    step s = .next { s with inbox := rest, requested_state := .running, run_state := .running
                            host_log := .stateChanged s.callbacks .running :: s.host_log }) ∧
  (∀ (s : State) (rest : List (List HostCall)), s.run_state = .stopped → s.booted = false → s.inbox = [.start] :: rest →
    step s = .next { s with inbox := rest }) ∧
  (∀ (s : State) (rest : List (List HostCall)), s.run_state ≠ .stopped →
    (s.inbox = [.start] :: rest → step s = step { s with inbox := [] :: rest }) ∧
    (∀ calls : List HostCall, calls = [.stop] ∨ (∃ b, calls = [.stop, .setPaused b]) → s.inbox = calls :: rest →
      step s = .next { s with inbox := rest, requested_state := .stopped, run_state := .stopped, pending := none
                              cur := InFlight.empty, host_log := .stateChanged s.callbacks .stopped :: s.host_log })) ∧
  (∀ (s : State) (rest : List (List HostCall)), s.run_state = .running → s.requested_state = .running →
    s.inbox = [.setPaused true] :: rest →
    step s = .next { s with inbox := rest, requested_state := .paused, run_state := .paused
                            host_log := .stateChanged s.callbacks .paused :: s.host_log }) ∧
  (∀ (s : State) (rest : List (List HostCall)), s.run_state = .paused → s.requested_state = .paused →
    s.inbox = [.setPaused false] :: rest →
    step s = step { s with inbox := [] :: rest, requested_state := .running, run_state := .running
                           host_log := .stateChanged s.callbacks .running :: s.host_log }) ∧
  (∀ (s : State) (b : Bool) (rest : List (List HostCall)), s.run_state = .stopped → s.requested_state = .stopped →
    s.inbox = [.setPaused b] :: rest → step s = .next { s with inbox := rest }) ∧
  (∀ (s : State) (calls : List HostCall) (rest : List (List HostCall)), s.inbox = (.registerCallback :: calls) :: rest →
    step s = step { s with inbox := calls :: rest, callbacks := s.callbacks ++ [s.nextHandle], nextHandle := s.nextHandle + 1
                           host_log := .registered s.nextHandle :: s.host_log }) ∧
  (∀ (s : State) (h : Nat) (calls : List HostCall) (rest : List (List HostCall)),
    s.inbox = (.unregisterCallback h :: calls) :: rest →
    step s = step { s with inbox := calls :: rest, callbacks := s.callbacks.filter fun k => decide (k ≠ h) })

/-- `BootCOM`: refused for want of a good image, else the boot state of 70_reset_and_hazards.md R394 and R396; called while Running or
Paused it has no effect (60_exceptions.md R377). The state before the image is decision D22 of the spec, the refusal while not Stopped
decision D40; how the image comes is the model's choice, log entry 16; the record that an image has been loaded is log entry 28. -/
def Obligations.BootComLoadsTheImage : Prop :=
  ∀ (s : State) (seg : Word) (image : Option (List Byte)) (rest : List (List HostCall)),
    s.inbox = [.bootCom seg image] :: rest →
    (s.run_state = .stopped → (image = none ∨ ∃ bs, image = some bs ∧ 0xFF00 < bs.length) →
      step s = .next { s with inbox := rest, host_log := .preBootError :: s.host_log }) ∧
    (∀ bs, s.run_state = .stopped → image = some bs → bs.length ≤ 0xFF00 → ∃ t, step s = .next t ∧
      t.regs = { Regs.zero with CS := seg, DS := seg, ES := seg, SS := seg, IP := 0x0100, SP := 0xFFFE } ∧
      t.flags = Flags.clear ∧ t.LAST_CS = 0 ∧ t.LAST_IP = 0 ∧ t.run_state = .stopped ∧
      t.requested_state = s.requested_state ∧ t.booted = true ∧ t.callbacks = s.callbacks ∧
      (∀ k : Nat, k < bs.length → 0x0100 + k < 0xFFFE →
        t.mem.read8 seg (BitVec.ofNat 16 (0x0100 + k)) = bs.getD k 0) ∧
      t.mem.read16 seg 0xFFFE = 0 ∧
      (∀ a : Phys, (∀ k : Nat, k < bs.length → a ≠ phys seg (BitVec.ofNat 16 (0x0100 + k))) → t.mem.byteAt a = 0)) ∧
    (s.run_state ≠ .stopped → step s = step { s with inbox := [] :: rest })

/-- `BootFloppy`: refused when no image is mounted or unless sector 0 is whole and ends in 55 AA, else the boot state of
70_reset_and_hazards.md R392 and R396; called while Running or Paused it has no effect (60_exceptions.md R377). The state before the image
is decision D22 of the spec, the refusal while not Stopped decision D40; how the image comes, and that an image shorter than a sector is
refused, are the model's choices, log entry 16; the record that an image has been loaded is log entry 28. -/
def Obligations.BootFloppyLoadsTheSector : Prop :=
  ∀ (s : State) (image : Option (List Byte)) (rest : List (List HostCall)), s.inbox = [.bootFloppy image] :: rest →
    (s.run_state = .stopped →
      image = none ∨ (∃ bs, image = some bs ∧ (bs.length < 512 ∨ bs.getD 0x1FE 0 ≠ 0x55 ∨ bs.getD 0x1FF 0 ≠ 0xAA)) →
      step s = .next { s with inbox := rest, host_log := .preBootError :: s.host_log }) ∧
    (∀ bs, s.run_state = .stopped → image = some bs → 512 ≤ bs.length → bs.getD 0x1FE 0 = 0x55 → bs.getD 0x1FF 0 = 0xAA →
      ∃ t, step s = .next t ∧
      t.regs = { Regs.zero with IP := 0x7C00 } ∧ t.flags = Flags.clear ∧ t.LAST_CS = 0 ∧ t.LAST_IP = 0 ∧
      t.run_state = .stopped ∧ t.requested_state = s.requested_state ∧ t.booted = true ∧ t.callbacks = s.callbacks ∧
      ∀ a : Phys, t.mem.byteAt a =
        if 0x7C00 ≤ a.toNat ∧ a.toNat ≤ 0x7DFF then bs.getD (a.toNat - 0x7C00) 0 else 0) ∧
    (s.run_state ≠ .stopped → step s = step { s with inbox := [] :: rest })
end

