-- ==== Sys2Proof/Laws/State.lean ====
section
/-! SUPPORT. One lemma per field and update of State, so that no proof unfolds a record update. -/

namespace Sys2Proof.Machine

/-! ## `State.setReg8` -/

@[simp] theorem State.regs_setReg8 (s : State) (r : Reg8) (v : Byte) : (s.setReg8 r v).regs = s.regs.set8 r v := rfl
@[simp] theorem State.flags_setReg8 (s : State) (r : Reg8) (v : Byte) : (s.setReg8 r v).flags = s.flags := rfl
@[simp] theorem State.mem_setReg8 (s : State) (r : Reg8) (v : Byte) : (s.setReg8 r v).mem = s.mem := rfl
@[simp] theorem State.LAST_CS_setReg8 (s : State) (r : Reg8) (v : Byte) : (s.setReg8 r v).LAST_CS = s.LAST_CS := rfl
@[simp] theorem State.LAST_IP_setReg8 (s : State) (r : Reg8) (v : Byte) : (s.setReg8 r v).LAST_IP = s.LAST_IP := rfl
@[simp] theorem State.run_state_setReg8 (s : State) (r : Reg8) (v : Byte) : (s.setReg8 r v).run_state = s.run_state := rfl
@[simp] theorem State.requested_state_setReg8 (s : State) (r : Reg8) (v : Byte) : (s.setReg8 r v).requested_state = s.requested_state := rfl
@[simp] theorem State.callbacks_setReg8 (s : State) (r : Reg8) (v : Byte) : (s.setReg8 r v).callbacks = s.callbacks := rfl
@[simp] theorem State.cur_setReg8 (s : State) (r : Reg8) (v : Byte) : (s.setReg8 r v).cur = s.cur := rfl
@[simp] theorem State.pending_setReg8 (s : State) (r : Reg8) (v : Byte) : (s.setReg8 r v).pending = s.pending := rfl
@[simp] theorem State.nextHandle_setReg8 (s : State) (r : Reg8) (v : Byte) : (s.setReg8 r v).nextHandle = s.nextHandle := rfl
@[simp] theorem State.draws_setReg8 (s : State) (r : Reg8) (v : Byte) : (s.setReg8 r v).draws = s.draws := rfl
@[simp] theorem State.inbox_setReg8 (s : State) (r : Reg8) (v : Byte) : (s.setReg8 r v).inbox = s.inbox := rfl
@[simp] theorem State.choices_setReg8 (s : State) (r : Reg8) (v : Byte) : (s.setReg8 r v).choices = s.choices := rfl
@[simp] theorem State.host_log_setReg8 (s : State) (r : Reg8) (v : Byte) : (s.setReg8 r v).host_log = s.host_log := rfl
@[simp] theorem State.MSDOS_ENABLED_setReg8 (s : State) (r : Reg8) (v : Byte) : (s.setReg8 r v).MSDOS_ENABLED = s.MSDOS_ENABLED := rfl
@[simp] theorem State.booted_setReg8 (s : State) (r : Reg8) (v : Byte) : (s.setReg8 r v).booted = s.booted := rfl

/-! ## `State.setReg16` -/

@[simp] theorem State.regs_setReg16 (s : State) (r : Reg16) (v : Word) : (s.setReg16 r v).regs = s.regs.set16 r v := rfl
@[simp] theorem State.flags_setReg16 (s : State) (r : Reg16) (v : Word) : (s.setReg16 r v).flags = s.flags := rfl
@[simp] theorem State.mem_setReg16 (s : State) (r : Reg16) (v : Word) : (s.setReg16 r v).mem = s.mem := rfl
@[simp] theorem State.LAST_CS_setReg16 (s : State) (r : Reg16) (v : Word) : (s.setReg16 r v).LAST_CS = s.LAST_CS := rfl
@[simp] theorem State.LAST_IP_setReg16 (s : State) (r : Reg16) (v : Word) : (s.setReg16 r v).LAST_IP = s.LAST_IP := rfl
@[simp] theorem State.run_state_setReg16 (s : State) (r : Reg16) (v : Word) : (s.setReg16 r v).run_state = s.run_state := rfl
@[simp] theorem State.requested_state_setReg16 (s : State) (r : Reg16) (v : Word) : (s.setReg16 r v).requested_state = s.requested_state := rfl
@[simp] theorem State.callbacks_setReg16 (s : State) (r : Reg16) (v : Word) : (s.setReg16 r v).callbacks = s.callbacks := rfl
@[simp] theorem State.cur_setReg16 (s : State) (r : Reg16) (v : Word) : (s.setReg16 r v).cur = s.cur := rfl
@[simp] theorem State.pending_setReg16 (s : State) (r : Reg16) (v : Word) : (s.setReg16 r v).pending = s.pending := rfl
@[simp] theorem State.nextHandle_setReg16 (s : State) (r : Reg16) (v : Word) : (s.setReg16 r v).nextHandle = s.nextHandle := rfl
@[simp] theorem State.draws_setReg16 (s : State) (r : Reg16) (v : Word) : (s.setReg16 r v).draws = s.draws := rfl
@[simp] theorem State.inbox_setReg16 (s : State) (r : Reg16) (v : Word) : (s.setReg16 r v).inbox = s.inbox := rfl
@[simp] theorem State.choices_setReg16 (s : State) (r : Reg16) (v : Word) : (s.setReg16 r v).choices = s.choices := rfl
@[simp] theorem State.host_log_setReg16 (s : State) (r : Reg16) (v : Word) : (s.setReg16 r v).host_log = s.host_log := rfl
@[simp] theorem State.MSDOS_ENABLED_setReg16 (s : State) (r : Reg16) (v : Word) : (s.setReg16 r v).MSDOS_ENABLED = s.MSDOS_ENABLED := rfl
@[simp] theorem State.booted_setReg16 (s : State) (r : Reg16) (v : Word) : (s.setReg16 r v).booted = s.booted := rfl

/-! ## `State.setSReg` -/

@[simp] theorem State.regs_setSReg (s : State) (r : SReg) (v : Word) : (s.setSReg r v).regs = s.regs.setS r v := rfl
@[simp] theorem State.flags_setSReg (s : State) (r : SReg) (v : Word) : (s.setSReg r v).flags = s.flags := rfl
@[simp] theorem State.mem_setSReg (s : State) (r : SReg) (v : Word) : (s.setSReg r v).mem = s.mem := rfl
@[simp] theorem State.LAST_CS_setSReg (s : State) (r : SReg) (v : Word) : (s.setSReg r v).LAST_CS = s.LAST_CS := rfl
@[simp] theorem State.LAST_IP_setSReg (s : State) (r : SReg) (v : Word) : (s.setSReg r v).LAST_IP = s.LAST_IP := rfl
@[simp] theorem State.run_state_setSReg (s : State) (r : SReg) (v : Word) : (s.setSReg r v).run_state = s.run_state := rfl
@[simp] theorem State.requested_state_setSReg (s : State) (r : SReg) (v : Word) : (s.setSReg r v).requested_state = s.requested_state := rfl
@[simp] theorem State.callbacks_setSReg (s : State) (r : SReg) (v : Word) : (s.setSReg r v).callbacks = s.callbacks := rfl
@[simp] theorem State.cur_setSReg (s : State) (r : SReg) (v : Word) : (s.setSReg r v).cur = s.cur := rfl
@[simp] theorem State.pending_setSReg (s : State) (r : SReg) (v : Word) : (s.setSReg r v).pending = s.pending := rfl
@[simp] theorem State.nextHandle_setSReg (s : State) (r : SReg) (v : Word) : (s.setSReg r v).nextHandle = s.nextHandle := rfl
@[simp] theorem State.draws_setSReg (s : State) (r : SReg) (v : Word) : (s.setSReg r v).draws = s.draws := rfl
@[simp] theorem State.inbox_setSReg (s : State) (r : SReg) (v : Word) : (s.setSReg r v).inbox = s.inbox := rfl
@[simp] theorem State.choices_setSReg (s : State) (r : SReg) (v : Word) : (s.setSReg r v).choices = s.choices := rfl
@[simp] theorem State.host_log_setSReg (s : State) (r : SReg) (v : Word) : (s.setSReg r v).host_log = s.host_log := rfl
@[simp] theorem State.MSDOS_ENABLED_setSReg (s : State) (r : SReg) (v : Word) : (s.setSReg r v).MSDOS_ENABLED = s.MSDOS_ENABLED := rfl
@[simp] theorem State.booted_setSReg (s : State) (r : SReg) (v : Word) : (s.setSReg r v).booted = s.booted := rfl

/-! ## `State.setIP` -/

@[simp] theorem State.regs_setIP (s : State) (v : Word) : (s.setIP v).regs = { s.regs with IP := v } := rfl
@[simp] theorem State.flags_setIP (s : State) (v : Word) : (s.setIP v).flags = s.flags := rfl
@[simp] theorem State.mem_setIP (s : State) (v : Word) : (s.setIP v).mem = s.mem := rfl
@[simp] theorem State.LAST_CS_setIP (s : State) (v : Word) : (s.setIP v).LAST_CS = s.LAST_CS := rfl
@[simp] theorem State.LAST_IP_setIP (s : State) (v : Word) : (s.setIP v).LAST_IP = s.LAST_IP := rfl
@[simp] theorem State.run_state_setIP (s : State) (v : Word) : (s.setIP v).run_state = s.run_state := rfl
@[simp] theorem State.requested_state_setIP (s : State) (v : Word) : (s.setIP v).requested_state = s.requested_state := rfl
@[simp] theorem State.callbacks_setIP (s : State) (v : Word) : (s.setIP v).callbacks = s.callbacks := rfl
@[simp] theorem State.cur_setIP (s : State) (v : Word) : (s.setIP v).cur = s.cur := rfl
@[simp] theorem State.pending_setIP (s : State) (v : Word) : (s.setIP v).pending = s.pending := rfl
@[simp] theorem State.nextHandle_setIP (s : State) (v : Word) : (s.setIP v).nextHandle = s.nextHandle := rfl
@[simp] theorem State.draws_setIP (s : State) (v : Word) : (s.setIP v).draws = s.draws := rfl
@[simp] theorem State.inbox_setIP (s : State) (v : Word) : (s.setIP v).inbox = s.inbox := rfl
@[simp] theorem State.choices_setIP (s : State) (v : Word) : (s.setIP v).choices = s.choices := rfl
@[simp] theorem State.host_log_setIP (s : State) (v : Word) : (s.setIP v).host_log = s.host_log := rfl
@[simp] theorem State.MSDOS_ENABLED_setIP (s : State) (v : Word) : (s.setIP v).MSDOS_ENABLED = s.MSDOS_ENABLED := rfl
@[simp] theorem State.booted_setIP (s : State) (v : Word) : (s.setIP v).booted = s.booted := rfl

/-! ## `State.setCSIP` -/

@[simp] theorem State.regs_setCSIP (s : State) (seg off : Word) : (s.setCSIP seg off).regs = { s.regs with CS := seg, IP := off } := rfl
@[simp] theorem State.flags_setCSIP (s : State) (seg off : Word) : (s.setCSIP seg off).flags = s.flags := rfl
@[simp] theorem State.mem_setCSIP (s : State) (seg off : Word) : (s.setCSIP seg off).mem = s.mem := rfl
@[simp] theorem State.LAST_CS_setCSIP (s : State) (seg off : Word) : (s.setCSIP seg off).LAST_CS = s.LAST_CS := rfl
@[simp] theorem State.LAST_IP_setCSIP (s : State) (seg off : Word) : (s.setCSIP seg off).LAST_IP = s.LAST_IP := rfl
@[simp] theorem State.run_state_setCSIP (s : State) (seg off : Word) : (s.setCSIP seg off).run_state = s.run_state := rfl
@[simp] theorem State.requested_state_setCSIP (s : State) (seg off : Word) : (s.setCSIP seg off).requested_state = s.requested_state := rfl
@[simp] theorem State.callbacks_setCSIP (s : State) (seg off : Word) : (s.setCSIP seg off).callbacks = s.callbacks := rfl
@[simp] theorem State.cur_setCSIP (s : State) (seg off : Word) : (s.setCSIP seg off).cur = s.cur := rfl
@[simp] theorem State.pending_setCSIP (s : State) (seg off : Word) : (s.setCSIP seg off).pending = s.pending := rfl
@[simp] theorem State.nextHandle_setCSIP (s : State) (seg off : Word) : (s.setCSIP seg off).nextHandle = s.nextHandle := rfl
@[simp] theorem State.draws_setCSIP (s : State) (seg off : Word) : (s.setCSIP seg off).draws = s.draws := rfl
@[simp] theorem State.inbox_setCSIP (s : State) (seg off : Word) : (s.setCSIP seg off).inbox = s.inbox := rfl
@[simp] theorem State.choices_setCSIP (s : State) (seg off : Word) : (s.setCSIP seg off).choices = s.choices := rfl
@[simp] theorem State.host_log_setCSIP (s : State) (seg off : Word) : (s.setCSIP seg off).host_log = s.host_log := rfl
@[simp] theorem State.MSDOS_ENABLED_setCSIP (s : State) (seg off : Word) : (s.setCSIP seg off).MSDOS_ENABLED = s.MSDOS_ENABLED := rfl
@[simp] theorem State.booted_setCSIP (s : State) (seg off : Word) : (s.setCSIP seg off).booted = s.booted := rfl

/-! ## `State.setFlags` -/

@[simp] theorem State.regs_setFlags (s : State) (f : Flags) : (s.setFlags f).regs = s.regs := rfl
@[simp] theorem State.flags_setFlags (s : State) (f : Flags) : (s.setFlags f).flags = f := rfl
@[simp] theorem State.mem_setFlags (s : State) (f : Flags) : (s.setFlags f).mem = s.mem := rfl
@[simp] theorem State.LAST_CS_setFlags (s : State) (f : Flags) : (s.setFlags f).LAST_CS = s.LAST_CS := rfl
@[simp] theorem State.LAST_IP_setFlags (s : State) (f : Flags) : (s.setFlags f).LAST_IP = s.LAST_IP := rfl
@[simp] theorem State.run_state_setFlags (s : State) (f : Flags) : (s.setFlags f).run_state = s.run_state := rfl
@[simp] theorem State.requested_state_setFlags (s : State) (f : Flags) : (s.setFlags f).requested_state = s.requested_state := rfl
@[simp] theorem State.callbacks_setFlags (s : State) (f : Flags) : (s.setFlags f).callbacks = s.callbacks := rfl
@[simp] theorem State.cur_setFlags (s : State) (f : Flags) : (s.setFlags f).cur = s.cur := rfl
@[simp] theorem State.pending_setFlags (s : State) (f : Flags) : (s.setFlags f).pending = s.pending := rfl
@[simp] theorem State.nextHandle_setFlags (s : State) (f : Flags) : (s.setFlags f).nextHandle = s.nextHandle := rfl
@[simp] theorem State.draws_setFlags (s : State) (f : Flags) : (s.setFlags f).draws = s.draws := rfl
@[simp] theorem State.inbox_setFlags (s : State) (f : Flags) : (s.setFlags f).inbox = s.inbox := rfl
@[simp] theorem State.choices_setFlags (s : State) (f : Flags) : (s.setFlags f).choices = s.choices := rfl
@[simp] theorem State.host_log_setFlags (s : State) (f : Flags) : (s.setFlags f).host_log = s.host_log := rfl
@[simp] theorem State.MSDOS_ENABLED_setFlags (s : State) (f : Flags) : (s.setFlags f).MSDOS_ENABLED = s.MSDOS_ENABLED := rfl
@[simp] theorem State.booted_setFlags (s : State) (f : Flags) : (s.setFlags f).booted = s.booted := rfl

/-! ## `State.write16` -/

@[simp] theorem State.regs_write16 (s : State) (seg off v : Word) : (s.write16 seg off v).regs = s.regs := rfl
@[simp] theorem State.flags_write16 (s : State) (seg off v : Word) : (s.write16 seg off v).flags = s.flags := rfl
@[simp] theorem State.mem_write16 (s : State) (seg off v : Word) : (s.write16 seg off v).mem = s.mem.write16 seg off v := rfl
@[simp] theorem State.LAST_CS_write16 (s : State) (seg off v : Word) : (s.write16 seg off v).LAST_CS = s.LAST_CS := rfl
@[simp] theorem State.LAST_IP_write16 (s : State) (seg off v : Word) : (s.write16 seg off v).LAST_IP = s.LAST_IP := rfl
@[simp] theorem State.run_state_write16 (s : State) (seg off v : Word) : (s.write16 seg off v).run_state = s.run_state := rfl
@[simp] theorem State.requested_state_write16 (s : State) (seg off v : Word) : (s.write16 seg off v).requested_state = s.requested_state := rfl
@[simp] theorem State.callbacks_write16 (s : State) (seg off v : Word) : (s.write16 seg off v).callbacks = s.callbacks := rfl
@[simp] theorem State.cur_write16 (s : State) (seg off v : Word) : (s.write16 seg off v).cur = s.cur := rfl
@[simp] theorem State.pending_write16 (s : State) (seg off v : Word) : (s.write16 seg off v).pending = s.pending := rfl
@[simp] theorem State.nextHandle_write16 (s : State) (seg off v : Word) : (s.write16 seg off v).nextHandle = s.nextHandle := rfl
@[simp] theorem State.draws_write16 (s : State) (seg off v : Word) : (s.write16 seg off v).draws = s.draws := rfl
@[simp] theorem State.inbox_write16 (s : State) (seg off v : Word) : (s.write16 seg off v).inbox = s.inbox := rfl
@[simp] theorem State.choices_write16 (s : State) (seg off v : Word) : (s.write16 seg off v).choices = s.choices := rfl
@[simp] theorem State.host_log_write16 (s : State) (seg off v : Word) : (s.write16 seg off v).host_log = s.host_log := rfl
@[simp] theorem State.MSDOS_ENABLED_write16 (s : State) (seg off v : Word) : (s.write16 seg off v).MSDOS_ENABLED = s.MSDOS_ENABLED := rfl
@[simp] theorem State.booted_write16 (s : State) (seg off v : Word) : (s.write16 seg off v).booted = s.booted := rfl

/-! ## `State.write8` -/

@[simp] theorem State.regs_write8 (s : State) (seg off : Word) (v : Byte) : (s.write8 seg off v).regs = s.regs := rfl
@[simp] theorem State.flags_write8 (s : State) (seg off : Word) (v : Byte) : (s.write8 seg off v).flags = s.flags := rfl
@[simp] theorem State.mem_write8 (s : State) (seg off : Word) (v : Byte) : (s.write8 seg off v).mem = s.mem.write8 seg off v := rfl
@[simp] theorem State.LAST_CS_write8 (s : State) (seg off : Word) (v : Byte) : (s.write8 seg off v).LAST_CS = s.LAST_CS := rfl
@[simp] theorem State.LAST_IP_write8 (s : State) (seg off : Word) (v : Byte) : (s.write8 seg off v).LAST_IP = s.LAST_IP := rfl
@[simp] theorem State.run_state_write8 (s : State) (seg off : Word) (v : Byte) : (s.write8 seg off v).run_state = s.run_state := rfl
@[simp] theorem State.requested_state_write8 (s : State) (seg off : Word) (v : Byte) : (s.write8 seg off v).requested_state = s.requested_state := rfl
@[simp] theorem State.callbacks_write8 (s : State) (seg off : Word) (v : Byte) : (s.write8 seg off v).callbacks = s.callbacks := rfl
@[simp] theorem State.cur_write8 (s : State) (seg off : Word) (v : Byte) : (s.write8 seg off v).cur = s.cur := rfl
@[simp] theorem State.pending_write8 (s : State) (seg off : Word) (v : Byte) : (s.write8 seg off v).pending = s.pending := rfl
@[simp] theorem State.nextHandle_write8 (s : State) (seg off : Word) (v : Byte) : (s.write8 seg off v).nextHandle = s.nextHandle := rfl
@[simp] theorem State.draws_write8 (s : State) (seg off : Word) (v : Byte) : (s.write8 seg off v).draws = s.draws := rfl
@[simp] theorem State.inbox_write8 (s : State) (seg off : Word) (v : Byte) : (s.write8 seg off v).inbox = s.inbox := rfl
@[simp] theorem State.choices_write8 (s : State) (seg off : Word) (v : Byte) : (s.write8 seg off v).choices = s.choices := rfl
@[simp] theorem State.host_log_write8 (s : State) (seg off : Word) (v : Byte) : (s.write8 seg off v).host_log = s.host_log := rfl
@[simp] theorem State.MSDOS_ENABLED_write8 (s : State) (seg off : Word) (v : Byte) : (s.write8 seg off v).MSDOS_ENABLED = s.MSDOS_ENABLED := rfl
@[simp] theorem State.booted_write8 (s : State) (seg off : Word) (v : Byte) : (s.write8 seg off v).booted = s.booted := rfl

/-! ## `State.push16` -/

@[simp] theorem State.regs_push16 (s : State) (v : Word) : (s.push16 v).regs = { s.regs with SP := s.regs.SP - 2 } := rfl
@[simp] theorem State.flags_push16 (s : State) (v : Word) : (s.push16 v).flags = s.flags := rfl
@[simp] theorem State.mem_push16 (s : State) (v : Word) : (s.push16 v).mem = s.mem.write16 s.regs.SS (s.regs.SP - 2) v := rfl
@[simp] theorem State.LAST_CS_push16 (s : State) (v : Word) : (s.push16 v).LAST_CS = s.LAST_CS := rfl
@[simp] theorem State.LAST_IP_push16 (s : State) (v : Word) : (s.push16 v).LAST_IP = s.LAST_IP := rfl
@[simp] theorem State.run_state_push16 (s : State) (v : Word) : (s.push16 v).run_state = s.run_state := rfl
@[simp] theorem State.requested_state_push16 (s : State) (v : Word) : (s.push16 v).requested_state = s.requested_state := rfl
@[simp] theorem State.callbacks_push16 (s : State) (v : Word) : (s.push16 v).callbacks = s.callbacks := rfl
@[simp] theorem State.cur_push16 (s : State) (v : Word) : (s.push16 v).cur = s.cur := rfl
@[simp] theorem State.pending_push16 (s : State) (v : Word) : (s.push16 v).pending = s.pending := rfl
@[simp] theorem State.nextHandle_push16 (s : State) (v : Word) : (s.push16 v).nextHandle = s.nextHandle := rfl
@[simp] theorem State.draws_push16 (s : State) (v : Word) : (s.push16 v).draws = s.draws := rfl
@[simp] theorem State.inbox_push16 (s : State) (v : Word) : (s.push16 v).inbox = s.inbox := rfl
@[simp] theorem State.choices_push16 (s : State) (v : Word) : (s.push16 v).choices = s.choices := rfl
@[simp] theorem State.host_log_push16 (s : State) (v : Word) : (s.push16 v).host_log = s.host_log := rfl
@[simp] theorem State.MSDOS_ENABLED_push16 (s : State) (v : Word) : (s.push16 v).MSDOS_ENABLED = s.MSDOS_ENABLED := rfl
@[simp] theorem State.booted_push16 (s : State) (v : Word) : (s.push16 v).booted = s.booted := rfl

/-! ## `State.dropTop` -/

@[simp] theorem State.regs_dropTop (s : State) : s.dropTop.regs = { s.regs with SP := s.regs.SP + 2 } := rfl
@[simp] theorem State.flags_dropTop (s : State) : s.dropTop.flags = s.flags := rfl
@[simp] theorem State.mem_dropTop (s : State) : s.dropTop.mem = s.mem := rfl
@[simp] theorem State.LAST_CS_dropTop (s : State) : s.dropTop.LAST_CS = s.LAST_CS := rfl
@[simp] theorem State.LAST_IP_dropTop (s : State) : s.dropTop.LAST_IP = s.LAST_IP := rfl
@[simp] theorem State.run_state_dropTop (s : State) : s.dropTop.run_state = s.run_state := rfl
@[simp] theorem State.requested_state_dropTop (s : State) : s.dropTop.requested_state = s.requested_state := rfl
@[simp] theorem State.callbacks_dropTop (s : State) : s.dropTop.callbacks = s.callbacks := rfl
@[simp] theorem State.cur_dropTop (s : State) : s.dropTop.cur = s.cur := rfl
@[simp] theorem State.pending_dropTop (s : State) : s.dropTop.pending = s.pending := rfl
@[simp] theorem State.nextHandle_dropTop (s : State) : s.dropTop.nextHandle = s.nextHandle := rfl
@[simp] theorem State.draws_dropTop (s : State) : s.dropTop.draws = s.draws := rfl
@[simp] theorem State.inbox_dropTop (s : State) : s.dropTop.inbox = s.inbox := rfl
@[simp] theorem State.choices_dropTop (s : State) : s.dropTop.choices = s.choices := rfl
@[simp] theorem State.host_log_dropTop (s : State) : s.dropTop.host_log = s.host_log := rfl
@[simp] theorem State.MSDOS_ENABLED_dropTop (s : State) : s.dropTop.MSDOS_ENABLED = s.MSDOS_ENABLED := rfl
@[simp] theorem State.booted_dropTop (s : State) : s.dropTop.booted = s.booted := rfl

/-! ## `State.log` -/

@[simp] theorem State.regs_log (s : State) (e : HostEvent) : (s.log e).regs = s.regs := rfl
@[simp] theorem State.flags_log (s : State) (e : HostEvent) : (s.log e).flags = s.flags := rfl
@[simp] theorem State.mem_log (s : State) (e : HostEvent) : (s.log e).mem = s.mem := rfl
@[simp] theorem State.LAST_CS_log (s : State) (e : HostEvent) : (s.log e).LAST_CS = s.LAST_CS := rfl
@[simp] theorem State.LAST_IP_log (s : State) (e : HostEvent) : (s.log e).LAST_IP = s.LAST_IP := rfl
@[simp] theorem State.run_state_log (s : State) (e : HostEvent) : (s.log e).run_state = s.run_state := rfl
@[simp] theorem State.requested_state_log (s : State) (e : HostEvent) : (s.log e).requested_state = s.requested_state := rfl
@[simp] theorem State.callbacks_log (s : State) (e : HostEvent) : (s.log e).callbacks = s.callbacks := rfl
@[simp] theorem State.cur_log (s : State) (e : HostEvent) : (s.log e).cur = s.cur := rfl
@[simp] theorem State.pending_log (s : State) (e : HostEvent) : (s.log e).pending = s.pending := rfl
@[simp] theorem State.nextHandle_log (s : State) (e : HostEvent) : (s.log e).nextHandle = s.nextHandle := rfl
@[simp] theorem State.draws_log (s : State) (e : HostEvent) : (s.log e).draws = s.draws := rfl
@[simp] theorem State.inbox_log (s : State) (e : HostEvent) : (s.log e).inbox = s.inbox := rfl
@[simp] theorem State.choices_log (s : State) (e : HostEvent) : (s.log e).choices = s.choices := rfl
@[simp] theorem State.host_log_log (s : State) (e : HostEvent) : (s.log e).host_log = e :: s.host_log := rfl
@[simp] theorem State.MSDOS_ENABLED_log (s : State) (e : HostEvent) : (s.log e).MSDOS_ENABLED = s.MSDOS_ENABLED := rfl
@[simp] theorem State.booted_log (s : State) (e : HostEvent) : (s.log e).booted = s.booted := rfl

/-! ## `State.enter` -/

@[simp] theorem State.regs_enter (s : State) (r : RunState) : (s.enter r).regs = s.regs := rfl
@[simp] theorem State.flags_enter (s : State) (r : RunState) : (s.enter r).flags = s.flags := rfl
@[simp] theorem State.mem_enter (s : State) (r : RunState) : (s.enter r).mem = s.mem := rfl
@[simp] theorem State.LAST_CS_enter (s : State) (r : RunState) : (s.enter r).LAST_CS = s.LAST_CS := rfl
@[simp] theorem State.LAST_IP_enter (s : State) (r : RunState) : (s.enter r).LAST_IP = s.LAST_IP := rfl
@[simp] theorem State.run_state_enter (s : State) (r : RunState) : (s.enter r).run_state = r := rfl
@[simp] theorem State.requested_state_enter (s : State) (r : RunState) : (s.enter r).requested_state = s.requested_state := rfl
@[simp] theorem State.callbacks_enter (s : State) (r : RunState) : (s.enter r).callbacks = s.callbacks := rfl
@[simp] theorem State.cur_enter (s : State) (r : RunState) : (s.enter r).cur = s.cur := rfl
@[simp] theorem State.pending_enter (s : State) (r : RunState) : (s.enter r).pending = s.pending := rfl
@[simp] theorem State.nextHandle_enter (s : State) (r : RunState) : (s.enter r).nextHandle = s.nextHandle := rfl
@[simp] theorem State.draws_enter (s : State) (r : RunState) : (s.enter r).draws = s.draws := rfl
@[simp] theorem State.inbox_enter (s : State) (r : RunState) : (s.enter r).inbox = s.inbox := rfl
@[simp] theorem State.choices_enter (s : State) (r : RunState) : (s.enter r).choices = s.choices := rfl
@[simp] theorem State.host_log_enter (s : State) (r : RunState) : (s.enter r).host_log = .stateChanged s.callbacks r :: s.host_log := rfl
@[simp] theorem State.MSDOS_ENABLED_enter (s : State) (r : RunState) : (s.enter r).MSDOS_ENABLED = s.MSDOS_ENABLED := rfl
@[simp] theorem State.booted_enter (s : State) (r : RunState) : (s.enter r).booted = s.booted := rfl

/-! ## `State.endRun` -/

@[simp] theorem State.regs_endRun (s : State) : s.endRun.regs = s.regs := rfl
@[simp] theorem State.flags_endRun (s : State) : s.endRun.flags = s.flags := rfl
@[simp] theorem State.mem_endRun (s : State) : s.endRun.mem = s.mem := rfl
@[simp] theorem State.LAST_CS_endRun (s : State) : s.endRun.LAST_CS = s.LAST_CS := rfl
@[simp] theorem State.LAST_IP_endRun (s : State) : s.endRun.LAST_IP = s.LAST_IP := rfl
@[simp] theorem State.run_state_endRun (s : State) : s.endRun.run_state = .stopped := rfl
@[simp] theorem State.requested_state_endRun (s : State) : s.endRun.requested_state = .stopped := rfl
@[simp] theorem State.callbacks_endRun (s : State) : s.endRun.callbacks = s.callbacks := rfl
@[simp] theorem State.cur_endRun (s : State) : s.endRun.cur = InFlight.empty := rfl
@[simp] theorem State.pending_endRun (s : State) : s.endRun.pending = none := rfl
@[simp] theorem State.nextHandle_endRun (s : State) : s.endRun.nextHandle = s.nextHandle := rfl
@[simp] theorem State.draws_endRun (s : State) : s.endRun.draws = s.draws := rfl
@[simp] theorem State.inbox_endRun (s : State) : s.endRun.inbox = s.inbox := rfl
@[simp] theorem State.choices_endRun (s : State) : s.endRun.choices = s.choices := rfl
@[simp] theorem State.host_log_endRun (s : State) : s.endRun.host_log = .stateChanged s.callbacks .stopped :: s.host_log := rfl
@[simp] theorem State.MSDOS_ENABLED_endRun (s : State) : s.endRun.MSDOS_ENABLED = s.MSDOS_ENABLED := rfl
@[simp] theorem State.booted_endRun (s : State) : s.endRun.booted = s.booted := rfl

/-! ## `State.dropChoice` -/

@[simp] theorem State.regs_dropChoice (s : State) : s.dropChoice.regs = s.regs := rfl
@[simp] theorem State.flags_dropChoice (s : State) : s.dropChoice.flags = s.flags := rfl
@[simp] theorem State.mem_dropChoice (s : State) : s.dropChoice.mem = s.mem := rfl
@[simp] theorem State.LAST_CS_dropChoice (s : State) : s.dropChoice.LAST_CS = s.LAST_CS := rfl
@[simp] theorem State.LAST_IP_dropChoice (s : State) : s.dropChoice.LAST_IP = s.LAST_IP := rfl
@[simp] theorem State.run_state_dropChoice (s : State) : s.dropChoice.run_state = s.run_state := rfl
@[simp] theorem State.requested_state_dropChoice (s : State) : s.dropChoice.requested_state = s.requested_state := rfl
@[simp] theorem State.callbacks_dropChoice (s : State) : s.dropChoice.callbacks = s.callbacks := rfl
@[simp] theorem State.cur_dropChoice (s : State) : s.dropChoice.cur = s.cur := rfl
@[simp] theorem State.pending_dropChoice (s : State) : s.dropChoice.pending = s.pending := rfl
@[simp] theorem State.nextHandle_dropChoice (s : State) : s.dropChoice.nextHandle = s.nextHandle := rfl
@[simp] theorem State.draws_dropChoice (s : State) : s.dropChoice.draws = s.draws + 1 := rfl
@[simp] theorem State.inbox_dropChoice (s : State) : s.dropChoice.inbox = s.inbox := rfl
@[simp] theorem State.choices_dropChoice (s : State) : s.dropChoice.choices = s.choices.tail := rfl
@[simp] theorem State.host_log_dropChoice (s : State) : s.dropChoice.host_log = s.host_log := rfl
@[simp] theorem State.MSDOS_ENABLED_dropChoice (s : State) : s.dropChoice.MSDOS_ENABLED = s.MSDOS_ENABLED := rfl
@[simp] theorem State.booted_dropChoice (s : State) : s.dropChoice.booted = s.booted := rfl

/-! ## `State.commit` -/

@[simp] theorem State.regs_commit (s : State) (v : View) : (s.commit v).regs = v.regs := rfl
@[simp] theorem State.flags_commit (s : State) (v : View) : (s.commit v).flags = v.flags := rfl
@[simp] theorem State.mem_commit (s : State) (v : View) : (s.commit v).mem = v.mem := rfl
@[simp] theorem State.LAST_CS_commit (s : State) (v : View) : (s.commit v).LAST_CS = s.LAST_CS := rfl
@[simp] theorem State.LAST_IP_commit (s : State) (v : View) : (s.commit v).LAST_IP = s.LAST_IP := rfl
@[simp] theorem State.run_state_commit (s : State) (v : View) : (s.commit v).run_state = s.run_state := rfl
@[simp] theorem State.requested_state_commit (s : State) (v : View) : (s.commit v).requested_state = s.requested_state := rfl
@[simp] theorem State.callbacks_commit (s : State) (v : View) : (s.commit v).callbacks = s.callbacks := rfl
@[simp] theorem State.cur_commit (s : State) (v : View) : (s.commit v).cur = s.cur := rfl
@[simp] theorem State.pending_commit (s : State) (v : View) : (s.commit v).pending = s.pending := rfl
@[simp] theorem State.nextHandle_commit (s : State) (v : View) : (s.commit v).nextHandle = s.nextHandle := rfl
@[simp] theorem State.draws_commit (s : State) (v : View) : (s.commit v).draws = s.draws := rfl
@[simp] theorem State.inbox_commit (s : State) (v : View) : (s.commit v).inbox = s.inbox := rfl
@[simp] theorem State.choices_commit (s : State) (v : View) : (s.commit v).choices = s.choices := rfl
@[simp] theorem State.host_log_commit (s : State) (v : View) : (s.commit v).host_log = s.host_log := rfl
@[simp] theorem State.MSDOS_ENABLED_commit (s : State) (v : View) : (s.commit v).MSDOS_ENABLED = s.MSDOS_ENABLED := rfl
@[simp] theorem State.booted_commit (s : State) (v : View) : (s.commit v).booted = s.booted := rfl

/-! ## `State.setSegPrefix` -/

@[simp] theorem State.regs_setSegPrefix (s : State) (r : SReg) : (s.setSegPrefix r).regs = s.regs := rfl
@[simp] theorem State.flags_setSegPrefix (s : State) (r : SReg) : (s.setSegPrefix r).flags = s.flags := rfl
@[simp] theorem State.mem_setSegPrefix (s : State) (r : SReg) : (s.setSegPrefix r).mem = s.mem := rfl
@[simp] theorem State.LAST_CS_setSegPrefix (s : State) (r : SReg) : (s.setSegPrefix r).LAST_CS = s.LAST_CS := rfl
@[simp] theorem State.LAST_IP_setSegPrefix (s : State) (r : SReg) : (s.setSegPrefix r).LAST_IP = s.LAST_IP := rfl
@[simp] theorem State.run_state_setSegPrefix (s : State) (r : SReg) : (s.setSegPrefix r).run_state = s.run_state := rfl
@[simp] theorem State.requested_state_setSegPrefix (s : State) (r : SReg) : (s.setSegPrefix r).requested_state = s.requested_state := rfl
@[simp] theorem State.callbacks_setSegPrefix (s : State) (r : SReg) : (s.setSegPrefix r).callbacks = s.callbacks := rfl
@[simp] theorem State.cur_setSegPrefix (s : State) (r : SReg) : (s.setSegPrefix r).cur = { s.cur with seg := some r } := rfl
@[simp] theorem State.pending_setSegPrefix (s : State) (r : SReg) : (s.setSegPrefix r).pending = s.pending := rfl
@[simp] theorem State.nextHandle_setSegPrefix (s : State) (r : SReg) : (s.setSegPrefix r).nextHandle = s.nextHandle := rfl
@[simp] theorem State.draws_setSegPrefix (s : State) (r : SReg) : (s.setSegPrefix r).draws = s.draws := rfl
@[simp] theorem State.inbox_setSegPrefix (s : State) (r : SReg) : (s.setSegPrefix r).inbox = s.inbox := rfl
@[simp] theorem State.choices_setSegPrefix (s : State) (r : SReg) : (s.setSegPrefix r).choices = s.choices := rfl
@[simp] theorem State.host_log_setSegPrefix (s : State) (r : SReg) : (s.setSegPrefix r).host_log = s.host_log := rfl
@[simp] theorem State.MSDOS_ENABLED_setSegPrefix (s : State) (r : SReg) : (s.setSegPrefix r).MSDOS_ENABLED = s.MSDOS_ENABLED := rfl
@[simp] theorem State.booted_setSegPrefix (s : State) (r : SReg) : (s.setSegPrefix r).booted = s.booted := rfl

/-! ## `State.setRepPrefix` -/

@[simp] theorem State.regs_setRepPrefix (s : State) (p : RepPrefix) : (s.setRepPrefix p).regs = s.regs := rfl
@[simp] theorem State.flags_setRepPrefix (s : State) (p : RepPrefix) : (s.setRepPrefix p).flags = s.flags := rfl
@[simp] theorem State.mem_setRepPrefix (s : State) (p : RepPrefix) : (s.setRepPrefix p).mem = s.mem := rfl
@[simp] theorem State.LAST_CS_setRepPrefix (s : State) (p : RepPrefix) : (s.setRepPrefix p).LAST_CS = s.LAST_CS := rfl
@[simp] theorem State.LAST_IP_setRepPrefix (s : State) (p : RepPrefix) : (s.setRepPrefix p).LAST_IP = s.LAST_IP := rfl
@[simp] theorem State.run_state_setRepPrefix (s : State) (p : RepPrefix) : (s.setRepPrefix p).run_state = s.run_state := rfl
@[simp] theorem State.requested_state_setRepPrefix (s : State) (p : RepPrefix) : (s.setRepPrefix p).requested_state = s.requested_state := rfl
@[simp] theorem State.callbacks_setRepPrefix (s : State) (p : RepPrefix) : (s.setRepPrefix p).callbacks = s.callbacks := rfl
@[simp] theorem State.cur_setRepPrefix (s : State) (p : RepPrefix) : (s.setRepPrefix p).cur = { s.cur with rep := p } := rfl
@[simp] theorem State.pending_setRepPrefix (s : State) (p : RepPrefix) : (s.setRepPrefix p).pending = s.pending := rfl
@[simp] theorem State.nextHandle_setRepPrefix (s : State) (p : RepPrefix) : (s.setRepPrefix p).nextHandle = s.nextHandle := rfl
@[simp] theorem State.draws_setRepPrefix (s : State) (p : RepPrefix) : (s.setRepPrefix p).draws = s.draws := rfl
@[simp] theorem State.inbox_setRepPrefix (s : State) (p : RepPrefix) : (s.setRepPrefix p).inbox = s.inbox := rfl
@[simp] theorem State.choices_setRepPrefix (s : State) (p : RepPrefix) : (s.setRepPrefix p).choices = s.choices := rfl
@[simp] theorem State.host_log_setRepPrefix (s : State) (p : RepPrefix) : (s.setRepPrefix p).host_log = s.host_log := rfl
@[simp] theorem State.MSDOS_ENABLED_setRepPrefix (s : State) (p : RepPrefix) : (s.setRepPrefix p).MSDOS_ENABLED = s.MSDOS_ENABLED := rfl
@[simp] theorem State.booted_setRepPrefix (s : State) (p : RepPrefix) : (s.setRepPrefix p).booted = s.booted := rfl

/-! ## `State.captureLast` -/

@[simp] theorem State.regs_captureLast (s : State) : s.captureLast.regs = s.regs := rfl
@[simp] theorem State.flags_captureLast (s : State) : s.captureLast.flags = s.flags := rfl
@[simp] theorem State.mem_captureLast (s : State) : s.captureLast.mem = s.mem := rfl
@[simp] theorem State.LAST_CS_captureLast (s : State) : s.captureLast.LAST_CS = s.regs.CS := rfl
@[simp] theorem State.LAST_IP_captureLast (s : State) : s.captureLast.LAST_IP = s.regs.IP := rfl
@[simp] theorem State.run_state_captureLast (s : State) : s.captureLast.run_state = s.run_state := rfl
@[simp] theorem State.requested_state_captureLast (s : State) : s.captureLast.requested_state = s.requested_state := rfl
@[simp] theorem State.callbacks_captureLast (s : State) : s.captureLast.callbacks = s.callbacks := rfl
@[simp] theorem State.cur_captureLast (s : State) : s.captureLast.cur = s.cur := rfl
@[simp] theorem State.pending_captureLast (s : State) : s.captureLast.pending = s.pending := rfl
@[simp] theorem State.nextHandle_captureLast (s : State) : s.captureLast.nextHandle = s.nextHandle := rfl
@[simp] theorem State.draws_captureLast (s : State) : s.captureLast.draws = s.draws := rfl
@[simp] theorem State.inbox_captureLast (s : State) : s.captureLast.inbox = s.inbox := rfl
@[simp] theorem State.choices_captureLast (s : State) : s.captureLast.choices = s.choices := rfl
@[simp] theorem State.host_log_captureLast (s : State) : s.captureLast.host_log = s.host_log := rfl
@[simp] theorem State.MSDOS_ENABLED_captureLast (s : State) : s.captureLast.MSDOS_ENABLED = s.MSDOS_ENABLED := rfl
@[simp] theorem State.booted_captureLast (s : State) : s.captureLast.booted = s.booted := rfl

/-! ## `State.powerOn` -/

@[simp] theorem State.regs_powerOn (s : State) : s.powerOn.regs = Regs.zero := rfl
@[simp] theorem State.flags_powerOn (s : State) : s.powerOn.flags = Flags.clear := rfl
@[simp] theorem State.mem_powerOn (s : State) : s.powerOn.mem = [] := rfl
@[simp] theorem State.LAST_CS_powerOn (s : State) : s.powerOn.LAST_CS = 0 := rfl
@[simp] theorem State.LAST_IP_powerOn (s : State) : s.powerOn.LAST_IP = 0 := rfl
@[simp] theorem State.run_state_powerOn (s : State) : s.powerOn.run_state = s.run_state := rfl
@[simp] theorem State.requested_state_powerOn (s : State) : s.powerOn.requested_state = s.requested_state := rfl
@[simp] theorem State.callbacks_powerOn (s : State) : s.powerOn.callbacks = s.callbacks := rfl
@[simp] theorem State.cur_powerOn (s : State) : s.powerOn.cur = s.cur := rfl
@[simp] theorem State.pending_powerOn (s : State) : s.powerOn.pending = s.pending := rfl
@[simp] theorem State.nextHandle_powerOn (s : State) : s.powerOn.nextHandle = s.nextHandle := rfl
@[simp] theorem State.draws_powerOn (s : State) : s.powerOn.draws = s.draws := rfl
@[simp] theorem State.inbox_powerOn (s : State) : s.powerOn.inbox = s.inbox := rfl
@[simp] theorem State.choices_powerOn (s : State) : s.powerOn.choices = s.choices := rfl
@[simp] theorem State.host_log_powerOn (s : State) : s.powerOn.host_log = s.host_log := rfl
@[simp] theorem State.MSDOS_ENABLED_powerOn (s : State) : s.powerOn.MSDOS_ENABLED = s.MSDOS_ENABLED := rfl
@[simp] theorem State.booted_powerOn (s : State) : s.powerOn.booted = true := rfl

/-! ## `State.undefCF` -/

@[simp] theorem State.regs_undefCF (s : State) : s.undefCF.regs = s.regs := rfl
@[simp] theorem State.flags_undefCF (s : State) : s.undefCF.flags = { s.flags with CF := Config.freeFlag s.draws } := rfl
@[simp] theorem State.mem_undefCF (s : State) : s.undefCF.mem = s.mem := rfl
@[simp] theorem State.LAST_CS_undefCF (s : State) : s.undefCF.LAST_CS = s.LAST_CS := rfl
@[simp] theorem State.LAST_IP_undefCF (s : State) : s.undefCF.LAST_IP = s.LAST_IP := rfl
@[simp] theorem State.run_state_undefCF (s : State) : s.undefCF.run_state = s.run_state := rfl
@[simp] theorem State.requested_state_undefCF (s : State) : s.undefCF.requested_state = s.requested_state := rfl
@[simp] theorem State.callbacks_undefCF (s : State) : s.undefCF.callbacks = s.callbacks := rfl
@[simp] theorem State.cur_undefCF (s : State) : s.undefCF.cur = s.cur := rfl
@[simp] theorem State.pending_undefCF (s : State) : s.undefCF.pending = s.pending := rfl
@[simp] theorem State.nextHandle_undefCF (s : State) : s.undefCF.nextHandle = s.nextHandle := rfl
@[simp] theorem State.draws_undefCF (s : State) : s.undefCF.draws = s.draws + 1 := rfl
@[simp] theorem State.inbox_undefCF (s : State) : s.undefCF.inbox = s.inbox := rfl
@[simp] theorem State.choices_undefCF (s : State) : s.undefCF.choices = s.choices := rfl
@[simp] theorem State.host_log_undefCF (s : State) : s.undefCF.host_log = s.host_log := rfl
@[simp] theorem State.MSDOS_ENABLED_undefCF (s : State) : s.undefCF.MSDOS_ENABLED = s.MSDOS_ENABLED := rfl
@[simp] theorem State.booted_undefCF (s : State) : s.undefCF.booted = s.booted := rfl

/-! ## `State.undefPF` -/

@[simp] theorem State.regs_undefPF (s : State) : s.undefPF.regs = s.regs := rfl
@[simp] theorem State.flags_undefPF (s : State) : s.undefPF.flags = { s.flags with PF := Config.freeFlag s.draws } := rfl
@[simp] theorem State.mem_undefPF (s : State) : s.undefPF.mem = s.mem := rfl
@[simp] theorem State.LAST_CS_undefPF (s : State) : s.undefPF.LAST_CS = s.LAST_CS := rfl
@[simp] theorem State.LAST_IP_undefPF (s : State) : s.undefPF.LAST_IP = s.LAST_IP := rfl
@[simp] theorem State.run_state_undefPF (s : State) : s.undefPF.run_state = s.run_state := rfl
@[simp] theorem State.requested_state_undefPF (s : State) : s.undefPF.requested_state = s.requested_state := rfl
@[simp] theorem State.callbacks_undefPF (s : State) : s.undefPF.callbacks = s.callbacks := rfl
@[simp] theorem State.cur_undefPF (s : State) : s.undefPF.cur = s.cur := rfl
@[simp] theorem State.pending_undefPF (s : State) : s.undefPF.pending = s.pending := rfl
@[simp] theorem State.nextHandle_undefPF (s : State) : s.undefPF.nextHandle = s.nextHandle := rfl
@[simp] theorem State.draws_undefPF (s : State) : s.undefPF.draws = s.draws + 1 := rfl
@[simp] theorem State.inbox_undefPF (s : State) : s.undefPF.inbox = s.inbox := rfl
@[simp] theorem State.choices_undefPF (s : State) : s.undefPF.choices = s.choices := rfl
@[simp] theorem State.host_log_undefPF (s : State) : s.undefPF.host_log = s.host_log := rfl
@[simp] theorem State.MSDOS_ENABLED_undefPF (s : State) : s.undefPF.MSDOS_ENABLED = s.MSDOS_ENABLED := rfl
@[simp] theorem State.booted_undefPF (s : State) : s.undefPF.booted = s.booted := rfl

/-! ## `State.undefAF` -/

@[simp] theorem State.regs_undefAF (s : State) : s.undefAF.regs = s.regs := rfl
@[simp] theorem State.flags_undefAF (s : State) : s.undefAF.flags = { s.flags with AF := Config.freeFlag s.draws } := rfl
@[simp] theorem State.mem_undefAF (s : State) : s.undefAF.mem = s.mem := rfl
@[simp] theorem State.LAST_CS_undefAF (s : State) : s.undefAF.LAST_CS = s.LAST_CS := rfl
@[simp] theorem State.LAST_IP_undefAF (s : State) : s.undefAF.LAST_IP = s.LAST_IP := rfl
@[simp] theorem State.run_state_undefAF (s : State) : s.undefAF.run_state = s.run_state := rfl
@[simp] theorem State.requested_state_undefAF (s : State) : s.undefAF.requested_state = s.requested_state := rfl
@[simp] theorem State.callbacks_undefAF (s : State) : s.undefAF.callbacks = s.callbacks := rfl
@[simp] theorem State.cur_undefAF (s : State) : s.undefAF.cur = s.cur := rfl
@[simp] theorem State.pending_undefAF (s : State) : s.undefAF.pending = s.pending := rfl
@[simp] theorem State.nextHandle_undefAF (s : State) : s.undefAF.nextHandle = s.nextHandle := rfl
@[simp] theorem State.draws_undefAF (s : State) : s.undefAF.draws = s.draws + 1 := rfl
@[simp] theorem State.inbox_undefAF (s : State) : s.undefAF.inbox = s.inbox := rfl
@[simp] theorem State.choices_undefAF (s : State) : s.undefAF.choices = s.choices := rfl
@[simp] theorem State.host_log_undefAF (s : State) : s.undefAF.host_log = s.host_log := rfl
@[simp] theorem State.MSDOS_ENABLED_undefAF (s : State) : s.undefAF.MSDOS_ENABLED = s.MSDOS_ENABLED := rfl
@[simp] theorem State.booted_undefAF (s : State) : s.undefAF.booted = s.booted := rfl

/-! ## `State.undefZF` -/

@[simp] theorem State.regs_undefZF (s : State) : s.undefZF.regs = s.regs := rfl
@[simp] theorem State.flags_undefZF (s : State) : s.undefZF.flags = { s.flags with ZF := Config.freeFlag s.draws } := rfl
@[simp] theorem State.mem_undefZF (s : State) : s.undefZF.mem = s.mem := rfl
@[simp] theorem State.LAST_CS_undefZF (s : State) : s.undefZF.LAST_CS = s.LAST_CS := rfl
@[simp] theorem State.LAST_IP_undefZF (s : State) : s.undefZF.LAST_IP = s.LAST_IP := rfl
@[simp] theorem State.run_state_undefZF (s : State) : s.undefZF.run_state = s.run_state := rfl
@[simp] theorem State.requested_state_undefZF (s : State) : s.undefZF.requested_state = s.requested_state := rfl
@[simp] theorem State.callbacks_undefZF (s : State) : s.undefZF.callbacks = s.callbacks := rfl
@[simp] theorem State.cur_undefZF (s : State) : s.undefZF.cur = s.cur := rfl
@[simp] theorem State.pending_undefZF (s : State) : s.undefZF.pending = s.pending := rfl
@[simp] theorem State.nextHandle_undefZF (s : State) : s.undefZF.nextHandle = s.nextHandle := rfl
@[simp] theorem State.draws_undefZF (s : State) : s.undefZF.draws = s.draws + 1 := rfl
@[simp] theorem State.inbox_undefZF (s : State) : s.undefZF.inbox = s.inbox := rfl
@[simp] theorem State.choices_undefZF (s : State) : s.undefZF.choices = s.choices := rfl
@[simp] theorem State.host_log_undefZF (s : State) : s.undefZF.host_log = s.host_log := rfl
@[simp] theorem State.MSDOS_ENABLED_undefZF (s : State) : s.undefZF.MSDOS_ENABLED = s.MSDOS_ENABLED := rfl
@[simp] theorem State.booted_undefZF (s : State) : s.undefZF.booted = s.booted := rfl

/-! ## `State.undefSF` -/

@[simp] theorem State.regs_undefSF (s : State) : s.undefSF.regs = s.regs := rfl
@[simp] theorem State.flags_undefSF (s : State) : s.undefSF.flags = { s.flags with SF := Config.freeFlag s.draws } := rfl
@[simp] theorem State.mem_undefSF (s : State) : s.undefSF.mem = s.mem := rfl
@[simp] theorem State.LAST_CS_undefSF (s : State) : s.undefSF.LAST_CS = s.LAST_CS := rfl
@[simp] theorem State.LAST_IP_undefSF (s : State) : s.undefSF.LAST_IP = s.LAST_IP := rfl
@[simp] theorem State.run_state_undefSF (s : State) : s.undefSF.run_state = s.run_state := rfl
@[simp] theorem State.requested_state_undefSF (s : State) : s.undefSF.requested_state = s.requested_state := rfl
@[simp] theorem State.callbacks_undefSF (s : State) : s.undefSF.callbacks = s.callbacks := rfl
@[simp] theorem State.cur_undefSF (s : State) : s.undefSF.cur = s.cur := rfl
@[simp] theorem State.pending_undefSF (s : State) : s.undefSF.pending = s.pending := rfl
@[simp] theorem State.nextHandle_undefSF (s : State) : s.undefSF.nextHandle = s.nextHandle := rfl
@[simp] theorem State.draws_undefSF (s : State) : s.undefSF.draws = s.draws + 1 := rfl
@[simp] theorem State.inbox_undefSF (s : State) : s.undefSF.inbox = s.inbox := rfl
@[simp] theorem State.choices_undefSF (s : State) : s.undefSF.choices = s.choices := rfl
@[simp] theorem State.host_log_undefSF (s : State) : s.undefSF.host_log = s.host_log := rfl
@[simp] theorem State.MSDOS_ENABLED_undefSF (s : State) : s.undefSF.MSDOS_ENABLED = s.MSDOS_ENABLED := rfl
@[simp] theorem State.booted_undefSF (s : State) : s.undefSF.booted = s.booted := rfl

/-! ## `State.undefOF` -/

@[simp] theorem State.regs_undefOF (s : State) : s.undefOF.regs = s.regs := rfl
@[simp] theorem State.flags_undefOF (s : State) : s.undefOF.flags = { s.flags with OF := Config.freeFlag s.draws } := rfl
@[simp] theorem State.mem_undefOF (s : State) : s.undefOF.mem = s.mem := rfl
@[simp] theorem State.LAST_CS_undefOF (s : State) : s.undefOF.LAST_CS = s.LAST_CS := rfl
@[simp] theorem State.LAST_IP_undefOF (s : State) : s.undefOF.LAST_IP = s.LAST_IP := rfl
@[simp] theorem State.run_state_undefOF (s : State) : s.undefOF.run_state = s.run_state := rfl
@[simp] theorem State.requested_state_undefOF (s : State) : s.undefOF.requested_state = s.requested_state := rfl
@[simp] theorem State.callbacks_undefOF (s : State) : s.undefOF.callbacks = s.callbacks := rfl
@[simp] theorem State.cur_undefOF (s : State) : s.undefOF.cur = s.cur := rfl
@[simp] theorem State.pending_undefOF (s : State) : s.undefOF.pending = s.pending := rfl
@[simp] theorem State.nextHandle_undefOF (s : State) : s.undefOF.nextHandle = s.nextHandle := rfl
@[simp] theorem State.draws_undefOF (s : State) : s.undefOF.draws = s.draws + 1 := rfl
@[simp] theorem State.inbox_undefOF (s : State) : s.undefOF.inbox = s.inbox := rfl
@[simp] theorem State.choices_undefOF (s : State) : s.undefOF.choices = s.choices := rfl
@[simp] theorem State.host_log_undefOF (s : State) : s.undefOF.host_log = s.host_log := rfl
@[simp] theorem State.MSDOS_ENABLED_undefOF (s : State) : s.undefOF.MSDOS_ENABLED = s.MSDOS_ENABLED := rfl
@[simp] theorem State.booted_undefOF (s : State) : s.undefOF.booted = s.booted := rfl

/-! ## The register file -/

@[simp] theorem Regs.AX_set16_ax (g : Regs) (v : Word) : (g.set16 .ax v).AX = v := rfl
@[simp] theorem Regs.BX_set16_ax (g : Regs) (v : Word) : (g.set16 .ax v).BX = g.BX := rfl
@[simp] theorem Regs.CX_set16_ax (g : Regs) (v : Word) : (g.set16 .ax v).CX = g.CX := rfl
@[simp] theorem Regs.DX_set16_ax (g : Regs) (v : Word) : (g.set16 .ax v).DX = g.DX := rfl
@[simp] theorem Regs.SP_set16_ax (g : Regs) (v : Word) : (g.set16 .ax v).SP = g.SP := rfl
@[simp] theorem Regs.BP_set16_ax (g : Regs) (v : Word) : (g.set16 .ax v).BP = g.BP := rfl
@[simp] theorem Regs.SI_set16_ax (g : Regs) (v : Word) : (g.set16 .ax v).SI = g.SI := rfl
@[simp] theorem Regs.DI_set16_ax (g : Regs) (v : Word) : (g.set16 .ax v).DI = g.DI := rfl
@[simp] theorem Regs.CS_set16_ax (g : Regs) (v : Word) : (g.set16 .ax v).CS = g.CS := rfl
@[simp] theorem Regs.DS_set16_ax (g : Regs) (v : Word) : (g.set16 .ax v).DS = g.DS := rfl
@[simp] theorem Regs.ES_set16_ax (g : Regs) (v : Word) : (g.set16 .ax v).ES = g.ES := rfl
@[simp] theorem Regs.SS_set16_ax (g : Regs) (v : Word) : (g.set16 .ax v).SS = g.SS := rfl
@[simp] theorem Regs.IP_set16_ax (g : Regs) (v : Word) : (g.set16 .ax v).IP = g.IP := rfl
@[simp] theorem Regs.AX_set16_cx (g : Regs) (v : Word) : (g.set16 .cx v).AX = g.AX := rfl
@[simp] theorem Regs.BX_set16_cx (g : Regs) (v : Word) : (g.set16 .cx v).BX = g.BX := rfl
@[simp] theorem Regs.CX_set16_cx (g : Regs) (v : Word) : (g.set16 .cx v).CX = v := rfl
@[simp] theorem Regs.DX_set16_cx (g : Regs) (v : Word) : (g.set16 .cx v).DX = g.DX := rfl
@[simp] theorem Regs.SP_set16_cx (g : Regs) (v : Word) : (g.set16 .cx v).SP = g.SP := rfl
@[simp] theorem Regs.BP_set16_cx (g : Regs) (v : Word) : (g.set16 .cx v).BP = g.BP := rfl
@[simp] theorem Regs.SI_set16_cx (g : Regs) (v : Word) : (g.set16 .cx v).SI = g.SI := rfl
@[simp] theorem Regs.DI_set16_cx (g : Regs) (v : Word) : (g.set16 .cx v).DI = g.DI := rfl
@[simp] theorem Regs.CS_set16_cx (g : Regs) (v : Word) : (g.set16 .cx v).CS = g.CS := rfl
@[simp] theorem Regs.DS_set16_cx (g : Regs) (v : Word) : (g.set16 .cx v).DS = g.DS := rfl
@[simp] theorem Regs.ES_set16_cx (g : Regs) (v : Word) : (g.set16 .cx v).ES = g.ES := rfl
@[simp] theorem Regs.SS_set16_cx (g : Regs) (v : Word) : (g.set16 .cx v).SS = g.SS := rfl
@[simp] theorem Regs.IP_set16_cx (g : Regs) (v : Word) : (g.set16 .cx v).IP = g.IP := rfl
@[simp] theorem Regs.AX_set16_dx (g : Regs) (v : Word) : (g.set16 .dx v).AX = g.AX := rfl
@[simp] theorem Regs.BX_set16_dx (g : Regs) (v : Word) : (g.set16 .dx v).BX = g.BX := rfl
@[simp] theorem Regs.CX_set16_dx (g : Regs) (v : Word) : (g.set16 .dx v).CX = g.CX := rfl
@[simp] theorem Regs.DX_set16_dx (g : Regs) (v : Word) : (g.set16 .dx v).DX = v := rfl
@[simp] theorem Regs.SP_set16_dx (g : Regs) (v : Word) : (g.set16 .dx v).SP = g.SP := rfl
@[simp] theorem Regs.BP_set16_dx (g : Regs) (v : Word) : (g.set16 .dx v).BP = g.BP := rfl
@[simp] theorem Regs.SI_set16_dx (g : Regs) (v : Word) : (g.set16 .dx v).SI = g.SI := rfl
@[simp] theorem Regs.DI_set16_dx (g : Regs) (v : Word) : (g.set16 .dx v).DI = g.DI := rfl
@[simp] theorem Regs.CS_set16_dx (g : Regs) (v : Word) : (g.set16 .dx v).CS = g.CS := rfl
@[simp] theorem Regs.DS_set16_dx (g : Regs) (v : Word) : (g.set16 .dx v).DS = g.DS := rfl
@[simp] theorem Regs.ES_set16_dx (g : Regs) (v : Word) : (g.set16 .dx v).ES = g.ES := rfl
@[simp] theorem Regs.SS_set16_dx (g : Regs) (v : Word) : (g.set16 .dx v).SS = g.SS := rfl
@[simp] theorem Regs.IP_set16_dx (g : Regs) (v : Word) : (g.set16 .dx v).IP = g.IP := rfl
@[simp] theorem Regs.AX_set16_bx (g : Regs) (v : Word) : (g.set16 .bx v).AX = g.AX := rfl
@[simp] theorem Regs.BX_set16_bx (g : Regs) (v : Word) : (g.set16 .bx v).BX = v := rfl
@[simp] theorem Regs.CX_set16_bx (g : Regs) (v : Word) : (g.set16 .bx v).CX = g.CX := rfl
@[simp] theorem Regs.DX_set16_bx (g : Regs) (v : Word) : (g.set16 .bx v).DX = g.DX := rfl
@[simp] theorem Regs.SP_set16_bx (g : Regs) (v : Word) : (g.set16 .bx v).SP = g.SP := rfl
@[simp] theorem Regs.BP_set16_bx (g : Regs) (v : Word) : (g.set16 .bx v).BP = g.BP := rfl
@[simp] theorem Regs.SI_set16_bx (g : Regs) (v : Word) : (g.set16 .bx v).SI = g.SI := rfl
@[simp] theorem Regs.DI_set16_bx (g : Regs) (v : Word) : (g.set16 .bx v).DI = g.DI := rfl
@[simp] theorem Regs.CS_set16_bx (g : Regs) (v : Word) : (g.set16 .bx v).CS = g.CS := rfl
@[simp] theorem Regs.DS_set16_bx (g : Regs) (v : Word) : (g.set16 .bx v).DS = g.DS := rfl
@[simp] theorem Regs.ES_set16_bx (g : Regs) (v : Word) : (g.set16 .bx v).ES = g.ES := rfl
@[simp] theorem Regs.SS_set16_bx (g : Regs) (v : Word) : (g.set16 .bx v).SS = g.SS := rfl
@[simp] theorem Regs.IP_set16_bx (g : Regs) (v : Word) : (g.set16 .bx v).IP = g.IP := rfl
@[simp] theorem Regs.AX_set16_sp (g : Regs) (v : Word) : (g.set16 .sp v).AX = g.AX := rfl
@[simp] theorem Regs.BX_set16_sp (g : Regs) (v : Word) : (g.set16 .sp v).BX = g.BX := rfl
@[simp] theorem Regs.CX_set16_sp (g : Regs) (v : Word) : (g.set16 .sp v).CX = g.CX := rfl
@[simp] theorem Regs.DX_set16_sp (g : Regs) (v : Word) : (g.set16 .sp v).DX = g.DX := rfl
@[simp] theorem Regs.SP_set16_sp (g : Regs) (v : Word) : (g.set16 .sp v).SP = v := rfl
@[simp] theorem Regs.BP_set16_sp (g : Regs) (v : Word) : (g.set16 .sp v).BP = g.BP := rfl
@[simp] theorem Regs.SI_set16_sp (g : Regs) (v : Word) : (g.set16 .sp v).SI = g.SI := rfl
@[simp] theorem Regs.DI_set16_sp (g : Regs) (v : Word) : (g.set16 .sp v).DI = g.DI := rfl
@[simp] theorem Regs.CS_set16_sp (g : Regs) (v : Word) : (g.set16 .sp v).CS = g.CS := rfl
@[simp] theorem Regs.DS_set16_sp (g : Regs) (v : Word) : (g.set16 .sp v).DS = g.DS := rfl
@[simp] theorem Regs.ES_set16_sp (g : Regs) (v : Word) : (g.set16 .sp v).ES = g.ES := rfl
@[simp] theorem Regs.SS_set16_sp (g : Regs) (v : Word) : (g.set16 .sp v).SS = g.SS := rfl
@[simp] theorem Regs.IP_set16_sp (g : Regs) (v : Word) : (g.set16 .sp v).IP = g.IP := rfl
@[simp] theorem Regs.AX_set16_bp (g : Regs) (v : Word) : (g.set16 .bp v).AX = g.AX := rfl
@[simp] theorem Regs.BX_set16_bp (g : Regs) (v : Word) : (g.set16 .bp v).BX = g.BX := rfl
@[simp] theorem Regs.CX_set16_bp (g : Regs) (v : Word) : (g.set16 .bp v).CX = g.CX := rfl
@[simp] theorem Regs.DX_set16_bp (g : Regs) (v : Word) : (g.set16 .bp v).DX = g.DX := rfl
@[simp] theorem Regs.SP_set16_bp (g : Regs) (v : Word) : (g.set16 .bp v).SP = g.SP := rfl
@[simp] theorem Regs.BP_set16_bp (g : Regs) (v : Word) : (g.set16 .bp v).BP = v := rfl
@[simp] theorem Regs.SI_set16_bp (g : Regs) (v : Word) : (g.set16 .bp v).SI = g.SI := rfl
@[simp] theorem Regs.DI_set16_bp (g : Regs) (v : Word) : (g.set16 .bp v).DI = g.DI := rfl
@[simp] theorem Regs.CS_set16_bp (g : Regs) (v : Word) : (g.set16 .bp v).CS = g.CS := rfl
@[simp] theorem Regs.DS_set16_bp (g : Regs) (v : Word) : (g.set16 .bp v).DS = g.DS := rfl
@[simp] theorem Regs.ES_set16_bp (g : Regs) (v : Word) : (g.set16 .bp v).ES = g.ES := rfl
@[simp] theorem Regs.SS_set16_bp (g : Regs) (v : Word) : (g.set16 .bp v).SS = g.SS := rfl
@[simp] theorem Regs.IP_set16_bp (g : Regs) (v : Word) : (g.set16 .bp v).IP = g.IP := rfl
@[simp] theorem Regs.AX_set16_si (g : Regs) (v : Word) : (g.set16 .si v).AX = g.AX := rfl
@[simp] theorem Regs.BX_set16_si (g : Regs) (v : Word) : (g.set16 .si v).BX = g.BX := rfl
@[simp] theorem Regs.CX_set16_si (g : Regs) (v : Word) : (g.set16 .si v).CX = g.CX := rfl
@[simp] theorem Regs.DX_set16_si (g : Regs) (v : Word) : (g.set16 .si v).DX = g.DX := rfl
@[simp] theorem Regs.SP_set16_si (g : Regs) (v : Word) : (g.set16 .si v).SP = g.SP := rfl
@[simp] theorem Regs.BP_set16_si (g : Regs) (v : Word) : (g.set16 .si v).BP = g.BP := rfl
@[simp] theorem Regs.SI_set16_si (g : Regs) (v : Word) : (g.set16 .si v).SI = v := rfl
@[simp] theorem Regs.DI_set16_si (g : Regs) (v : Word) : (g.set16 .si v).DI = g.DI := rfl
@[simp] theorem Regs.CS_set16_si (g : Regs) (v : Word) : (g.set16 .si v).CS = g.CS := rfl
@[simp] theorem Regs.DS_set16_si (g : Regs) (v : Word) : (g.set16 .si v).DS = g.DS := rfl
@[simp] theorem Regs.ES_set16_si (g : Regs) (v : Word) : (g.set16 .si v).ES = g.ES := rfl
@[simp] theorem Regs.SS_set16_si (g : Regs) (v : Word) : (g.set16 .si v).SS = g.SS := rfl
@[simp] theorem Regs.IP_set16_si (g : Regs) (v : Word) : (g.set16 .si v).IP = g.IP := rfl
@[simp] theorem Regs.AX_set16_di (g : Regs) (v : Word) : (g.set16 .di v).AX = g.AX := rfl
@[simp] theorem Regs.BX_set16_di (g : Regs) (v : Word) : (g.set16 .di v).BX = g.BX := rfl
@[simp] theorem Regs.CX_set16_di (g : Regs) (v : Word) : (g.set16 .di v).CX = g.CX := rfl
@[simp] theorem Regs.DX_set16_di (g : Regs) (v : Word) : (g.set16 .di v).DX = g.DX := rfl
@[simp] theorem Regs.SP_set16_di (g : Regs) (v : Word) : (g.set16 .di v).SP = g.SP := rfl
@[simp] theorem Regs.BP_set16_di (g : Regs) (v : Word) : (g.set16 .di v).BP = g.BP := rfl
@[simp] theorem Regs.SI_set16_di (g : Regs) (v : Word) : (g.set16 .di v).SI = g.SI := rfl
@[simp] theorem Regs.DI_set16_di (g : Regs) (v : Word) : (g.set16 .di v).DI = v := rfl
@[simp] theorem Regs.CS_set16_di (g : Regs) (v : Word) : (g.set16 .di v).CS = g.CS := rfl
@[simp] theorem Regs.DS_set16_di (g : Regs) (v : Word) : (g.set16 .di v).DS = g.DS := rfl
@[simp] theorem Regs.ES_set16_di (g : Regs) (v : Word) : (g.set16 .di v).ES = g.ES := rfl
@[simp] theorem Regs.SS_set16_di (g : Regs) (v : Word) : (g.set16 .di v).SS = g.SS := rfl
@[simp] theorem Regs.IP_set16_di (g : Regs) (v : Word) : (g.set16 .di v).IP = g.IP := rfl
@[simp] theorem Regs.AX_setS_es (g : Regs) (v : Word) : (g.setS .es v).AX = g.AX := rfl
@[simp] theorem Regs.BX_setS_es (g : Regs) (v : Word) : (g.setS .es v).BX = g.BX := rfl
@[simp] theorem Regs.CX_setS_es (g : Regs) (v : Word) : (g.setS .es v).CX = g.CX := rfl
@[simp] theorem Regs.DX_setS_es (g : Regs) (v : Word) : (g.setS .es v).DX = g.DX := rfl
@[simp] theorem Regs.SP_setS_es (g : Regs) (v : Word) : (g.setS .es v).SP = g.SP := rfl
@[simp] theorem Regs.BP_setS_es (g : Regs) (v : Word) : (g.setS .es v).BP = g.BP := rfl
@[simp] theorem Regs.SI_setS_es (g : Regs) (v : Word) : (g.setS .es v).SI = g.SI := rfl
@[simp] theorem Regs.DI_setS_es (g : Regs) (v : Word) : (g.setS .es v).DI = g.DI := rfl
@[simp] theorem Regs.CS_setS_es (g : Regs) (v : Word) : (g.setS .es v).CS = g.CS := rfl
@[simp] theorem Regs.DS_setS_es (g : Regs) (v : Word) : (g.setS .es v).DS = g.DS := rfl
@[simp] theorem Regs.ES_setS_es (g : Regs) (v : Word) : (g.setS .es v).ES = v := rfl
@[simp] theorem Regs.SS_setS_es (g : Regs) (v : Word) : (g.setS .es v).SS = g.SS := rfl
@[simp] theorem Regs.IP_setS_es (g : Regs) (v : Word) : (g.setS .es v).IP = g.IP := rfl
@[simp] theorem Regs.AX_setS_cs (g : Regs) (v : Word) : (g.setS .cs v).AX = g.AX := rfl
@[simp] theorem Regs.BX_setS_cs (g : Regs) (v : Word) : (g.setS .cs v).BX = g.BX := rfl
@[simp] theorem Regs.CX_setS_cs (g : Regs) (v : Word) : (g.setS .cs v).CX = g.CX := rfl
@[simp] theorem Regs.DX_setS_cs (g : Regs) (v : Word) : (g.setS .cs v).DX = g.DX := rfl
@[simp] theorem Regs.SP_setS_cs (g : Regs) (v : Word) : (g.setS .cs v).SP = g.SP := rfl
@[simp] theorem Regs.BP_setS_cs (g : Regs) (v : Word) : (g.setS .cs v).BP = g.BP := rfl
@[simp] theorem Regs.SI_setS_cs (g : Regs) (v : Word) : (g.setS .cs v).SI = g.SI := rfl
@[simp] theorem Regs.DI_setS_cs (g : Regs) (v : Word) : (g.setS .cs v).DI = g.DI := rfl
@[simp] theorem Regs.CS_setS_cs (g : Regs) (v : Word) : (g.setS .cs v).CS = v := rfl
@[simp] theorem Regs.DS_setS_cs (g : Regs) (v : Word) : (g.setS .cs v).DS = g.DS := rfl
@[simp] theorem Regs.ES_setS_cs (g : Regs) (v : Word) : (g.setS .cs v).ES = g.ES := rfl
@[simp] theorem Regs.SS_setS_cs (g : Regs) (v : Word) : (g.setS .cs v).SS = g.SS := rfl
@[simp] theorem Regs.IP_setS_cs (g : Regs) (v : Word) : (g.setS .cs v).IP = g.IP := rfl
@[simp] theorem Regs.AX_setS_ss (g : Regs) (v : Word) : (g.setS .ss v).AX = g.AX := rfl
@[simp] theorem Regs.BX_setS_ss (g : Regs) (v : Word) : (g.setS .ss v).BX = g.BX := rfl
@[simp] theorem Regs.CX_setS_ss (g : Regs) (v : Word) : (g.setS .ss v).CX = g.CX := rfl
@[simp] theorem Regs.DX_setS_ss (g : Regs) (v : Word) : (g.setS .ss v).DX = g.DX := rfl
@[simp] theorem Regs.SP_setS_ss (g : Regs) (v : Word) : (g.setS .ss v).SP = g.SP := rfl
@[simp] theorem Regs.BP_setS_ss (g : Regs) (v : Word) : (g.setS .ss v).BP = g.BP := rfl
@[simp] theorem Regs.SI_setS_ss (g : Regs) (v : Word) : (g.setS .ss v).SI = g.SI := rfl
@[simp] theorem Regs.DI_setS_ss (g : Regs) (v : Word) : (g.setS .ss v).DI = g.DI := rfl
@[simp] theorem Regs.CS_setS_ss (g : Regs) (v : Word) : (g.setS .ss v).CS = g.CS := rfl
@[simp] theorem Regs.DS_setS_ss (g : Regs) (v : Word) : (g.setS .ss v).DS = g.DS := rfl
@[simp] theorem Regs.ES_setS_ss (g : Regs) (v : Word) : (g.setS .ss v).ES = g.ES := rfl
@[simp] theorem Regs.SS_setS_ss (g : Regs) (v : Word) : (g.setS .ss v).SS = v := rfl
@[simp] theorem Regs.IP_setS_ss (g : Regs) (v : Word) : (g.setS .ss v).IP = g.IP := rfl
@[simp] theorem Regs.AX_setS_ds (g : Regs) (v : Word) : (g.setS .ds v).AX = g.AX := rfl
@[simp] theorem Regs.BX_setS_ds (g : Regs) (v : Word) : (g.setS .ds v).BX = g.BX := rfl
@[simp] theorem Regs.CX_setS_ds (g : Regs) (v : Word) : (g.setS .ds v).CX = g.CX := rfl
@[simp] theorem Regs.DX_setS_ds (g : Regs) (v : Word) : (g.setS .ds v).DX = g.DX := rfl
@[simp] theorem Regs.SP_setS_ds (g : Regs) (v : Word) : (g.setS .ds v).SP = g.SP := rfl
@[simp] theorem Regs.BP_setS_ds (g : Regs) (v : Word) : (g.setS .ds v).BP = g.BP := rfl
@[simp] theorem Regs.SI_setS_ds (g : Regs) (v : Word) : (g.setS .ds v).SI = g.SI := rfl
@[simp] theorem Regs.DI_setS_ds (g : Regs) (v : Word) : (g.setS .ds v).DI = g.DI := rfl
@[simp] theorem Regs.CS_setS_ds (g : Regs) (v : Word) : (g.setS .ds v).CS = g.CS := rfl
@[simp] theorem Regs.DS_setS_ds (g : Regs) (v : Word) : (g.setS .ds v).DS = v := rfl
@[simp] theorem Regs.ES_setS_ds (g : Regs) (v : Word) : (g.setS .ds v).ES = g.ES := rfl
@[simp] theorem Regs.SS_setS_ds (g : Regs) (v : Word) : (g.setS .ds v).SS = g.SS := rfl
@[simp] theorem Regs.IP_setS_ds (g : Regs) (v : Word) : (g.setS .ds v).IP = g.IP := rfl

/-- A word register that is written reads as written. -/
@[simp] theorem Regs.get16_set16_same (g : Regs) (r : Reg16) (v : Word) : (g.set16 r v).get16 r = v := by cases r <;> rfl

/-- Another word register keeps its value. -/
theorem Regs.get16_set16_ne (g : Regs) (r q : Reg16) (v : Word) (h : q ≠ r) : (g.set16 r v).get16 q = g.get16 q := by
  cases r <;> cases q <;> first | rfl | exact absurd rfl h

/-- The segment registers keep their values. -/
@[simp] theorem Regs.getS_set16 (g : Regs) (r : Reg16) (q : SReg) (v : Word) : (g.set16 r v).getS q = g.getS q := by
  cases r <;> cases q <;> rfl

/-- A segment register that is written reads as written. -/
@[simp] theorem Regs.getS_setS_same (g : Regs) (r : SReg) (v : Word) : (g.setS r v).getS r = v := by cases r <;> rfl

/-- Another segment register keeps its value. -/
theorem Regs.getS_setS_ne (g : Regs) (r q : SReg) (v : Word) (h : q ≠ r) : (g.setS r v).getS q = g.getS q := by
  cases r <;> cases q <;> first | rfl | exact absurd rfl h

/-- The word registers keep their values. -/
@[simp] theorem Regs.get16_setS (g : Regs) (r : SReg) (q : Reg16) (v : Word) : (g.setS r v).get16 q = g.get16 q := by
  cases r <;> cases q <;> rfl

/-- The byte registers keep their values. -/
@[simp] theorem Regs.get8_setS (g : Regs) (r : SReg) (q : Reg8) (v : Word) : (g.setS r v).get8 q = g.get8 q := by
  cases r <;> cases q <;> rfl

/-- A joined word bit by bit. -/
theorem getLsbD_joinBytes (lo hi : Byte) (i : Nat) :
    (joinBytes lo hi).getLsbD i = if i < 8 then lo.getLsbD i else hi.getLsbD (i - 8) := BitVec.getLsbD_append

/-- The low byte of a joined word. -/
@[simp] theorem loByte_joinBytes (lo hi : Byte) : loByte (joinBytes lo hi) = lo := by
  apply BitVec.eq_of_getLsbD_eq
  intro i h
  simp [loByte, getLsbD_joinBytes, h]

/-- The high byte of a joined word. -/
@[simp] theorem hiByte_joinBytes (lo hi : Byte) : hiByte (joinBytes lo hi) = hi := by
  apply BitVec.eq_of_getLsbD_eq
  intro i h
  simp [hiByte, getLsbD_joinBytes, h]

/-- A word is its two bytes. -/
@[simp] theorem joinBytes_lo_hi (w : Word) : joinBytes (loByte w) (hiByte w) = w := by
  apply BitVec.eq_of_getLsbD_eq
  intro i h
  rw [getLsbD_joinBytes]
  split
  · simp_all [loByte]
  · simp only [hiByte, BitVec.getLsbD_extractLsb']
    rw [show decide (i - 8 < 8) = true by simp; omega, show 8 + (i - 8) = i by omega]; simp

/-- A joined word as a number. -/
theorem toNat_joinBytes (lo hi : Byte) : (joinBytes lo hi).toNat = lo.toNat + 256 * hi.toNat := by
  have h : (joinBytes lo hi).toNat = hi.toNat <<< 8 ||| lo.toNat := BitVec.toNat_append hi lo
  rw [h, ← Nat.shiftLeft_add_eq_or_of_lt (by exact lo.isLt)]
  simp only [Nat.shiftLeft_eq]; omega

/-- The low byte as a number. -/
theorem toNat_loByte (w : Word) : (loByte w).toNat = w.toNat % 256 := by simp [loByte, BitVec.extractLsb'_toNat]

/-- The high byte as a number. -/
theorem toNat_hiByte (w : Word) : (hiByte w).toNat = w.toNat / 256 := by
  simp only [hiByte, BitVec.extractLsb'_toNat, Nat.shiftRight_eq_div_pow]
  have := w.isLt; omega

/-- A byte register that is written reads as written (10_state.md R21). -/
@[simp] theorem Regs.get8_set8_same (g : Regs) (r : Reg8) (v : Byte) : (g.set8 r v).get8 r = v := by
  cases r <;> simp [Regs.get8, Regs.set8]

/-- Another byte register keeps its value (10_state.md R21). -/
theorem Regs.get8_set8_ne (g : Regs) (r q : Reg8) (v : Byte) (h : q ≠ r) : (g.set8 r v).get8 q = g.get8 q := by
  cases r <;> cases q <;> first | exact absurd rfl h | simp [Regs.get8, Regs.set8]

/-- The segment registers keep their values. -/
@[simp] theorem Regs.getS_set8 (g : Regs) (r : Reg8) (q : SReg) (v : Byte) : (g.set8 r v).getS q = g.getS q := by
  cases r <;> cases q <;> rfl

@[simp] theorem Regs.SP_set8 (g : Regs) (r : Reg8) (v : Byte) : (g.set8 r v).SP = g.SP := by cases r <;> rfl
@[simp] theorem Regs.BP_set8 (g : Regs) (r : Reg8) (v : Byte) : (g.set8 r v).BP = g.BP := by cases r <;> rfl
@[simp] theorem Regs.SI_set8 (g : Regs) (r : Reg8) (v : Byte) : (g.set8 r v).SI = g.SI := by cases r <;> rfl
@[simp] theorem Regs.DI_set8 (g : Regs) (r : Reg8) (v : Byte) : (g.set8 r v).DI = g.DI := by cases r <;> rfl
@[simp] theorem Regs.CS_set8 (g : Regs) (r : Reg8) (v : Byte) : (g.set8 r v).CS = g.CS := by cases r <;> rfl
@[simp] theorem Regs.DS_set8 (g : Regs) (r : Reg8) (v : Byte) : (g.set8 r v).DS = g.DS := by cases r <;> rfl
@[simp] theorem Regs.ES_set8 (g : Regs) (r : Reg8) (v : Byte) : (g.set8 r v).ES = g.ES := by cases r <;> rfl
@[simp] theorem Regs.SS_set8 (g : Regs) (r : Reg8) (v : Byte) : (g.set8 r v).SS = g.SS := by cases r <;> rfl
@[simp] theorem Regs.IP_set8 (g : Regs) (r : Reg8) (v : Byte) : (g.set8 r v).IP = g.IP := by cases r <;> rfl

end Sys2Proof.Machine
end

