-- ==== Sys2Proof/Laws/Memory.lean ====
section
/-! SUPPORT. Memory: every operation keeps the canonical form, a read after a write gives what was written, and equal bytes are equal
lists. -/

namespace Sys2Proof.Machine

/-! ## The list of cells -/

/-- A listed byte below the bound reads as unlisted. -/
theorem Memory.read_lt (m : Memory) (lo a : Nat) (h : Memory.wfFrom lo m = true) (ha : a < lo) : m.read a = unlistedByte := by
  cases m with
  | nil => rfl
  | cons c rest =>
    simp only [Memory.wfFrom, Bool.and_eq_true, decide_eq_true_eq] at h
    simp only [Memory.read]
    rw [if_pos (by omega)]

/-- A canonical list is canonical from any lower bound. -/
theorem Memory.wfFrom_mono (m : Memory) (lo lo' : Nat) (hl : lo' ≤ lo) (h : Memory.wfFrom lo m = true) :
    Memory.wfFrom lo' m = true := by
  cases m with
  | nil => rfl
  | cons c rest =>
    simp only [Memory.wfFrom, Bool.and_eq_true, decide_eq_true_eq] at h ⊢
    exact ⟨⟨⟨by omega, h.1.1.2⟩, h.1.2⟩, h.2⟩

/-- A write keeps the canonical form. -/
theorem Memory.wfFrom_write (m : Memory) (lo a : Nat) (v : Byte) (h : Memory.wfFrom lo m = true) (hl : lo ≤ a)
    (ha : a < Config.memSize) : Memory.wfFrom lo (m.write a v) = true := by
  induction m generalizing lo with
  | nil =>
    simp only [Memory.write]
    by_cases hv : v = unlistedByte
    · rw [if_pos hv]; rfl
    · rw [if_neg hv]
      simp only [Memory.wfFrom, Bool.and_eq_true, decide_eq_true_eq, bne_iff_ne, ne_eq]
      exact ⟨⟨⟨hl, ha⟩, hv⟩, trivial⟩
  | cons c rest ih =>
    obtain ⟨b, w⟩ := c
    simp only [Memory.wfFrom, Bool.and_eq_true, decide_eq_true_eq, bne_iff_ne, ne_eq] at h
    obtain ⟨⟨⟨h1, h2⟩, h3⟩, h4⟩ := h
    simp only [Memory.write]
    split
    · by_cases hv : v = unlistedByte
      · rw [if_pos hv]
        simp only [Memory.wfFrom, Bool.and_eq_true, decide_eq_true_eq, bne_iff_ne, ne_eq]
        exact ⟨⟨⟨h1, h2⟩, h3⟩, h4⟩
      · rw [if_neg hv]
        simp only [Memory.wfFrom, Bool.and_eq_true, decide_eq_true_eq, bne_iff_ne, ne_eq]
        exact ⟨⟨⟨hl, ha⟩, hv⟩, ⟨⟨by omega, h2⟩, h3⟩, h4⟩
    · split
      · rename_i hab
        subst hab
        by_cases hv : v = unlistedByte
        · rw [if_pos hv]; exact Memory.wfFrom_mono _ _ _ (by omega) h4
        · rw [if_neg hv]
          simp only [Memory.wfFrom, Bool.and_eq_true, decide_eq_true_eq, bne_iff_ne, ne_eq]
          exact ⟨⟨⟨hl, ha⟩, hv⟩, h4⟩
      · simp only [Memory.wfFrom, Bool.and_eq_true, decide_eq_true_eq, bne_iff_ne, ne_eq]
        exact ⟨⟨⟨h1, h2⟩, h3⟩, ih (b + 1) h4 (by omega)⟩

/-- A read after a write: the byte written, or the byte that was there. -/
theorem Memory.read_write (m : Memory) (lo a b : Nat) (v : Byte) (h : Memory.wfFrom lo m = true) :
    (m.write a v).read b = if b = a then v else m.read b := by
  induction m generalizing lo with
  | nil =>
    simp only [Memory.write]
    split
    · split <;> simp_all [Memory.read]
    · simp only [Memory.read]
      split
      · rw [if_neg (by omega)]
      · rfl
  | cons c rest ih =>
    obtain ⟨c, w⟩ := c
    simp only [Memory.wfFrom, Bool.and_eq_true, decide_eq_true_eq, bne_iff_ne, ne_eq] at h
    obtain ⟨⟨⟨h1, h2⟩, h3⟩, h4⟩ := h
    simp only [Memory.write]
    split
    · split
      · simp only [Memory.read]
        split
        · split <;> simp_all
        · split
          · rw [if_neg (by omega)]
          · rw [if_neg (by omega)]
      · simp only [Memory.read]
        split
        · rw [if_neg (by omega), if_pos (by omega)]
        · split <;> rfl
    · split
      · rename_i hac
        subst hac
        split
        · rename_i hv
          subst hv
          simp only [Memory.read]
          split
          · rw [Memory.read_lt rest (a + 1) b h4 (by omega)]
          · split
            · rw [Memory.read_lt rest (a + 1) b h4 (by omega)]
            · rfl
        · simp only [Memory.read]
          split
          · rw [if_neg (by omega)]
          · split <;> rfl
      · simp only [Memory.read]
        rw [ih (c + 1) h4]
        split
        · rw [if_neg (by omega)]
        · split
          · rw [if_neg (by omega)]
          · rfl

/-- Canonical memories that read alike are equal. -/
theorem Memory.ext_of_read (m m' : Memory) (lo : Nat) (h : Memory.wfFrom lo m = true) (h' : Memory.wfFrom lo m' = true)
    (hr : ∀ a, m.read a = m'.read a) : m = m' := by
  induction m generalizing lo m' with
  | nil =>
    cases m' with
    | nil => rfl
    | cons c rest =>
      simp only [Memory.wfFrom, Bool.and_eq_true, decide_eq_true_eq, bne_iff_ne, ne_eq] at h'
      have := hr c.1
      simp only [Memory.read, lt_irrefl, if_false, if_true, unlistedByte] at this
      exact absurd this.symm h'.1.2
  | cons c rest ih =>
    obtain ⟨a, v⟩ := c
    simp only [Memory.wfFrom, Bool.and_eq_true, decide_eq_true_eq, bne_iff_ne, ne_eq] at h
    cases m' with
    | nil =>
      have := hr a
      simp only [Memory.read, lt_irrefl, if_false, if_true, unlistedByte] at this
      exact absurd this h.1.2
    | cons c' rest' =>
      obtain ⟨a', v'⟩ := c'
      simp only [Memory.wfFrom, Bool.and_eq_true, decide_eq_true_eq, bne_iff_ne, ne_eq] at h'
      have ha : a = a' := by
        rcases Nat.lt_trichotomy a a' with hlt | heq | hlt
        · have := hr a
          simp only [Memory.read, lt_irrefl, if_false, if_true, hlt, unlistedByte] at this
          exact absurd this h.1.2
        · exact heq
        · have := hr a'
          simp only [Memory.read, lt_irrefl, if_false, if_true, hlt, unlistedByte] at this
          exact absurd this.symm h'.1.2
      subst ha
      have hv : v = v' := by
        have := hr a
        simpa only [Memory.read, lt_irrefl, if_false, if_true] using this
      subst hv
      congr 1
      refine ih rest' (a + 1) h.2 h'.2 fun b => ?_
      by_cases hb : b < a + 1
      · rw [Memory.read_lt rest (a + 1) b h.2 hb, Memory.read_lt rest' (a + 1) b h'.2 hb]
      · have := hr b
        simp only [Memory.read] at this
        rw [if_neg (by omega), if_neg (by omega), if_neg (by omega), if_neg (by omega)] at this
        exact this

/-! ## Bytes and words -/

/-- Memory right after power-on is canonical. -/
@[simp] theorem Memory.wf_nil : Memory.wf [] = true := rfl

/-- An unlisted byte reads as 0. -/
@[simp] theorem Memory.byteAt_nil (a : Phys) : Memory.byteAt [] a = 0 := rfl

/-- A byte write keeps the canonical form. -/
@[simp] theorem Memory.wf_setByteAt (m : Memory) (p : Phys) (v : Byte) (h : m.wf = true) : (m.setByteAt p v).wf = true :=
  Memory.wfFrom_write m 0 p.toNat v h (Nat.zero_le _) (by have := p.isLt; simpa [Config.memSize] using this)

/-- A word write keeps the canonical form. -/
@[simp] theorem Memory.wf_setWordAt (m : Memory) (p : Phys) (v : Word) (h : m.wf = true) : (m.setWordAt p v).wf = true :=
  Memory.wf_setByteAt _ _ _ (Memory.wf_setByteAt _ _ _ h)

/-- `write8` keeps the canonical form. -/
@[simp] theorem Memory.wf_write8 (m : Memory) (seg off : Word) (v : Byte) (h : m.wf = true) : (m.write8 seg off v).wf = true :=
  Memory.wf_setByteAt _ _ _ h

/-- `write16` keeps the canonical form. -/
@[simp] theorem Memory.wf_write16 (m : Memory) (seg off v : Word) (h : m.wf = true) : (m.write16 seg off v).wf = true :=
  Memory.wf_setWordAt _ _ _ h

/-- Writing a list of bytes keeps the canonical form. -/
@[simp] theorem Memory.wf_writeBytes (m : Memory) (seg off : Word) (bs : List Byte) (h : m.wf = true) :
    (m.writeBytes seg off bs).wf = true := by
  induction bs generalizing m off with
  | nil => exact h
  | cons b bs ih => exact ih _ _ (Memory.wf_write8 _ _ _ _ h)

/-- Writing a list of addressed bytes keeps the canonical form. -/
@[simp] theorem Memory.wf_writeAll (m : Memory) (ws : List (Phys × Byte)) (h : m.wf = true) : (m.writeAll ws).wf = true := by
  induction ws generalizing m with
  | nil => exact h
  | cons w ws ih => exact ih _ (Memory.wf_setByteAt _ _ _ h)

/-- Reading a byte after a byte write. -/
theorem Memory.byteAt_setByteAt (m : Memory) (p a : Phys) (v : Byte) (h : m.wf = true) :
    (m.setByteAt p v).byteAt a = if a = p then v else m.byteAt a := by
  simp only [Memory.byteAt, Memory.setByteAt, Memory.read_write m 0 _ _ _ h, ← BitVec.toNat_inj]

/-- The address after an address is another one. -/
theorem phys_succ_ne (p : Phys) : p + 1 ≠ p := by
  intro h
  have := congrArg BitVec.toNat h
  have hp := p.isLt
  simp only [BitVec.toNat_add, show (1 : Phys).toNat = 1 from rfl] at this
  omega

/-- Reading a byte after a word write (20_memory.md R66). -/
theorem Memory.byteAt_setWordAt (m : Memory) (p a : Phys) (v : Word) (h : m.wf = true) :
    (m.setWordAt p v).byteAt a = if a = p + 1 then hiByte v else if a = p then loByte v else m.byteAt a := by
  simp only [Memory.setWordAt, Memory.byteAt_setByteAt _ _ _ _ (Memory.wf_setByteAt m p (loByte v) h),
    Memory.byteAt_setByteAt m _ _ _ h]

/-- Reading the byte just written. -/
@[simp] theorem Memory.byteAt_setByteAt_same (m : Memory) (p : Phys) (v : Byte) (h : m.wf = true) :
    (m.setByteAt p v).byteAt p = v := by simp [Memory.byteAt_setByteAt _ _ _ _ h]

/-- Reading the word just written (20_memory.md R64, R66). -/
@[simp] theorem Memory.wordAt_setWordAt_same (m : Memory) (p : Phys) (v : Word) (h : m.wf = true) :
    (m.setWordAt p v).wordAt p = v := by
  simp only [Memory.wordAt, Memory.byteAt_setWordAt _ _ _ _ h, if_true, if_neg (phys_succ_ne p).symm, joinBytes_lo_hi]

/-- A word none of whose bytes is written keeps its value. -/
theorem Memory.wordAt_setWordAt_ne (m : Memory) (p q : Phys) (v : Word) (h : m.wf = true) (h0 : q ≠ p) (h1 : q ≠ p + 1)
    (h2 : q + 1 ≠ p) : (m.setWordAt p v).wordAt q = m.wordAt q := by
  have h3 : q + 1 ≠ p + 1 := fun e => h0 (by simpa using e)
  simp only [Memory.wordAt, Memory.byteAt_setWordAt _ _ _ _ h, if_neg h0, if_neg h1, if_neg h2, if_neg h3]

/-- Canonical memories with the same bytes are the same list. -/
theorem Memory.ext_of_byteAt (m m' : Memory) (h : m.wf = true) (h' : m'.wf = true) (hb : ∀ a : Phys, m.byteAt a = m'.byteAt a) :
    m = m' := by
  have high : ∀ (m : Memory) (lo a : Nat), Memory.wfFrom lo m = true → Config.memSize ≤ a → m.read a = unlistedByte := by
    intro m
    induction m with
    | nil => intros; rfl
    | cons c rest ih =>
      intro lo a hw ha
      simp only [Memory.wfFrom, Bool.and_eq_true, decide_eq_true_eq] at hw
      simp only [Memory.read]
      rw [if_neg (by omega), if_neg (by omega)]
      exact ih _ _ hw.2 ha
  refine Memory.ext_of_read m m' 0 h h' fun a => ?_
  by_cases ha : a < Config.memSize
  · have := hb (BitVec.ofNat 20 a)
    simp only [Memory.byteAt, BitVec.toNat_ofNat] at this
    rwa [Nat.mod_eq_of_lt (by simpa [Config.memSize] using ha)] at this
  · rw [high m 0 a h (by omega), high m' 0 a h' (by omega)]

/-! ## Addresses -/

/-- The physical address as a number (20_memory.md R62). -/
theorem toNat_phys (seg off : Word) : (phys seg off).toNat = (seg.toNat * 16 + off.toNat) % 2 ^ 20 := by
  simp only [phys, BitVec.toNat_add, BitVec.toNat_shiftLeft, BitVec.toNat_setWidth, Nat.shiftLeft_eq]
  have := seg.isLt; have := off.isLt
  omega

/-- Different offsets of a segment have different addresses. -/
theorem phys_inj (seg off off' : Word) (h : phys seg off = phys seg off') : off = off' := by
  have := congrArg BitVec.toNat h
  simp only [toNat_phys] at this
  apply BitVec.eq_of_toNat_eq
  have := off.isLt; have := off'.isLt; have := seg.isLt
  omega

/-! ## Lists of bytes -/

/-- A byte that is not among those written keeps its value. -/
theorem Memory.byteAt_writeBytes_ne (m : Memory) (seg off : Word) (bs : List Byte) (hw : m.wf = true) (a : Phys)
    (h : ∀ k : Nat, k < bs.length → a ≠ phys seg (off + BitVec.ofNat 16 k)) : (m.writeBytes seg off bs).byteAt a = m.byteAt a := by
  induction bs generalizing m off with
  | nil => rfl
  | cons b bs ih =>
    refine (ih _ _ (Memory.wf_write8 _ _ _ _ hw) fun k hk => ?_).trans
      ((Memory.byteAt_setByteAt m _ a b hw).trans (if_neg ?_))
    · have := h (k + 1) (by simpa using hk)
      rwa [BitVec.ofNat_add, BitVec.add_comm (BitVec.ofNat 16 k), ← BitVec.add_assoc] at this
    · have := h 0 (by simp)
      rwa [show BitVec.ofNat 16 0 = 0#16 from rfl, BitVec.add_zero] at this

/-- A byte written reads back, unless a later one has come round to its offset. -/
theorem Memory.read8_writeBytes (m : Memory) (seg off : Word) (bs : List Byte) (hw : m.wf = true) (k : Nat) (hk : k < bs.length)
    (hlast : bs.length ≤ 65536 + k) : (m.writeBytes seg off bs).read8 seg (off + BitVec.ofNat 16 k) = bs.getD k 0 := by
  induction bs generalizing m off k with
  | nil => exact absurd hk (Nat.not_lt_zero _)
  | cons b bs ih =>
    cases k with
    | zero =>
      rw [show BitVec.ofNat 16 0 = 0#16 from rfl, BitVec.add_zero]
      refine (Memory.byteAt_writeBytes_ne _ seg (off + 1) bs (Memory.wf_write8 _ _ _ _ hw) _ fun j hj e => ?_).trans
        (Memory.byteAt_setByteAt_same m _ b hw)
      have e := congrArg BitVec.toNat (phys_inj _ _ _ e)
      rw [BitVec.add_assoc, BitVec.toNat_add, BitVec.toNat_add, BitVec.toNat_ofNat, show (1 : Word).toNat = 1 from rfl] at e
      have := off.isLt
      simp only [List.length_cons] at hlast
      omega
    | succ k =>
      have := ih (m.write8 seg off b) (off + 1) (Memory.wf_write8 _ _ _ _ hw) k (by simpa using hk) (by simp at hlast; omega)
      rw [BitVec.ofNat_add, BitVec.add_comm (BitVec.ofNat 16 k), ← BitVec.add_assoc]
      exact this

/-- A byte at none of the listed addresses keeps its value. -/
theorem Memory.byteAt_writeAll_ne (m : Memory) (ws : List (Phys × Byte)) (hw : m.wf = true) (a : Phys) (h : ∀ w ∈ ws, a ≠ w.1) :
    (m.writeAll ws).byteAt a = m.byteAt a := by
  induction ws generalizing m with
  | nil => rfl
  | cons w ws ih =>
    exact (ih _ (Memory.wf_setByteAt _ _ _ hw) fun x hx => h x (List.mem_cons_of_mem _ hx)).trans
      ((Memory.byteAt_setByteAt m w.1 a w.2 hw).trans (if_neg (h w List.mem_cons_self)))

end Sys2Proof.Machine
end

