-- ==== Sys2Proof/Laws/Frame.lean ====
section
/-! SUPPORT. Frames: how they compose, and the frame of each shared operation. -/

namespace Sys2Proof.Machine

/-! ## Composing frames -/

/-- Nothing changes from a state to itself. -/
theorem Frame.refl (s : State) : Frame s s [] [] [] := ⟨fun _ _ => rfl, fun _ _ => rfl, fun _ _ => rfl, rfl⟩

/-- A frame may name more than changes. -/
theorem Frame.mono {s t : State} {p p' : List RegPart} {f f' : List FlagName} {m m' : List Phys} (h : Frame s t p f m)
    (hp : ∀ x ∈ p, x ∈ p') (hf : ∀ x ∈ f, x ∈ f') (hm : ∀ x ∈ m, x ∈ m') : Frame s t p' f' m' :=
  ⟨fun x hx => h.regs x fun e => hx (hp x e), fun x hx => h.flags x fun e => hx (hf x e), fun x hx => h.mem x fun e => hx (hm x e),
    h.rest⟩

/-- One frame after another. -/
theorem Frame.trans {s t u : State} {p p' : List RegPart} {f f' : List FlagName} {m m' : List Phys} (h : Frame s t p f m)
    (h' : Frame t u p' f' m') : Frame s u (p ++ p') (f ++ f') (m ++ m') := by
  refine ⟨fun x hx => ?_, fun x hx => ?_, fun x hx => ?_, ?_⟩
  · simp only [List.mem_append, not_or] at hx
    rw [h'.regs x hx.2, h.regs x hx.1]
  · simp only [List.mem_append, not_or] at hx
    rw [h'.flags x hx.2, h.flags x hx.1]
  · simp only [List.mem_append, not_or] at hx
    rw [h'.mem x hx.2, h.mem x hx.1]
  · rw [h'.rest, h.rest]

/-! ## Parts -/

/-- Writing a byte register changes its own part only. -/
theorem part_setReg8 (s : State) (r : Reg8) (v : Byte) (p : RegPart) (h : p ∉ [RegPart.byte r]) :
    (s.setReg8 r v).part p = s.part p := by
  cases p with
  | byte q =>
    have : q ≠ r := fun e => h (by simp [e])
    simp only [State.part, State.reg8, State.regs_setReg8, Regs.get8_set8_ne _ _ _ _ this]
  | seg q => simp [State.part, State.sreg]
  | _ => simp [State.part]

/-- Writing a word register changes its own parts only. -/
theorem part_setReg16 (s : State) (r : Reg16) (v : Word) (p : RegPart) (h : p ∉ r.parts) :
    (s.setReg16 r v).part p = s.part p := by
  cases r <;> cases p with
  | byte q => cases q <;> first | rfl | exact absurd (by simp [Reg16.parts]) h
  | seg q => cases q <;> rfl
  | _ => first | rfl | exact absurd (by simp [Reg16.parts]) h

/-- Writing a segment register changes its own part only. -/
theorem part_setSReg (s : State) (r : SReg) (v : Word) (p : RegPart) (h : p ∉ [RegPart.seg r]) :
    (s.setSReg r v).part p = s.part p := by
  cases p with
  | seg q =>
    have : q ≠ r := fun e => h (by simp [e])
    simp only [State.part, State.sreg, State.regs_setSReg, Regs.getS_setS_ne _ _ _ _ this]
  | byte q => simp [State.part, State.reg8]
  | _ => cases r <;> rfl

/-! ## Frames of the operations -/

/-- Frame of a byte register write. -/
theorem frame_setReg8 (s : State) (r : Reg8) (v : Byte) : Frame s (s.setReg8 r v) [.byte r] [] [] :=
  ⟨part_setReg8 s r v, fun _ _ => rfl, fun _ _ => rfl, rfl⟩

/-- Frame of a word register write. -/
theorem frame_setReg16 (s : State) (r : Reg16) (v : Word) : Frame s (s.setReg16 r v) r.parts [] [] :=
  ⟨part_setReg16 s r v, fun _ _ => rfl, fun _ _ => rfl, rfl⟩

/-- Frame of a segment register write. -/
theorem frame_setSReg (s : State) (r : SReg) (v : Word) : Frame s (s.setSReg r v) [.seg r] [] [] :=
  ⟨part_setSReg s r v, fun _ _ => rfl, fun _ _ => rfl, rfl⟩

/-- Frame of a write of IP. -/
theorem frame_setIP (s : State) (v : Word) : Frame s (s.setIP v) [.ip] [] [] := by
  refine ⟨fun p hp => ?_, fun _ _ => rfl, fun _ _ => rfl, rfl⟩
  cases p with
  | byte q => cases q <;> rfl
  | seg q => cases q <;> rfl
  | ip => exact absurd (by simp) hp
  | _ => rfl

/-- Frame of a write of CS and IP. -/
theorem frame_setCSIP (s : State) (seg off : Word) : Frame s (s.setCSIP seg off) [.ip, .seg .cs] [] [] := by
  refine ⟨fun p hp => ?_, fun _ _ => rfl, fun _ _ => rfl, rfl⟩
  cases p with
  | byte q => cases q <;> rfl
  | seg q => cases q <;> first | rfl | exact absurd (by simp) hp
  | ip => exact absurd (by simp) hp
  | _ => rfl

/-- Frame of a write of flags that agree outside a list. -/
theorem frame_setFlags (s : State) (f : Flags) (fs : List FlagName) (h : ∀ x, x ∉ fs → f.get x = s.flags.get x) :
    Frame s (s.setFlags f) [] fs [] := ⟨fun p _ => by cases p <;> rfl, h, fun _ _ => rfl, rfl⟩

/-- Frame of a byte write to memory. -/
theorem frame_write8 (s : State) (seg off : Word) (v : Byte) (h : s.mem.wf = true) :
    Frame s (s.write8 seg off v) [] [] [phys seg off] := by
  refine ⟨fun p _ => by cases p <;> rfl, fun _ _ => rfl, fun a ha => ?_, rfl⟩
  simp only [List.mem_singleton] at ha
  simp only [State.mem_write8, Memory.write8, Memory.byteAt_setByteAt _ _ _ _ h, if_neg ha]

/-- Frame of a word write to memory. -/
theorem frame_write16 (s : State) (seg off v : Word) (h : s.mem.wf = true) :
    Frame s (s.write16 seg off v) [] [] [phys seg off, phys seg off + 1] := by
  refine ⟨fun p _ => by cases p <;> rfl, fun _ _ => rfl, fun a ha => ?_, rfl⟩
  simp only [List.mem_cons, List.not_mem_nil, or_false, not_or] at ha
  simp only [State.mem_write16, Memory.write16, Memory.byteAt_setWordAt _ _ _ _ h, if_neg ha.1, if_neg ha.2]

/-- Frame of a push (20_memory.md R70). -/
theorem frame_push16 (s : State) (v : Word) (h : s.mem.wf = true) : Frame s (s.push16 v) [.sp] [] s.pushSlot :=
  ((frame_setReg16 s .sp (s.regs.SP - 2)).trans (frame_write16 _ s.regs.SS (s.regs.SP - 2) v h)).mono
    (by simp [Reg16.parts]) (by simp) (by simp [State.pushSlot])

/-- Frame of a pop's stack pointer (20_memory.md R71). -/
theorem frame_dropTop (s : State) : Frame s s.dropTop [.sp] [] [] := frame_setReg16 s .sp (s.regs.SP + 2)

/-! ## Destinations -/

/-- A destination byte that is written reads as written. -/
theorem get8_put8 (t : State) (l : Loc8) (v : Byte) (h : t.mem.wf = true) : (t.put8 l v).get8 l = v := by
  cases l with
  | reg r => simp [State.put8, State.get8, State.reg8]
  | mem p => simp [State.put8, State.get8, h]

/-- A destination word that is written reads as written. -/
theorem get16_put16 (t : State) (l : Loc16) (v : Word) (h : t.mem.wf = true) : (t.put16 l v).get16 l = v := by
  cases l with
  | reg r => simp [State.put16, State.get16, State.reg16]
  | mem p => simp [State.put16, State.get16, h]

/-- Writing a destination changes no flag. -/
@[simp] theorem flags_put8 (t : State) (l : Loc8) (v : Byte) : (t.put8 l v).flags = t.flags := by cases l <;> rfl

/-- Writing a destination changes no flag. -/
@[simp] theorem flags_put16 (t : State) (l : Loc16) (v : Word) : (t.put16 l v).flags = t.flags := by cases l <;> rfl

/-- Writing a destination keeps memory canonical. -/
theorem wf_put8 (t : State) (l : Loc8) (v : Byte) (h : t.mem.wf = true) : (t.put8 l v).mem.wf = true := by
  cases l <;> simp [State.put8, h]

/-- Writing a destination keeps memory canonical. -/
theorem wf_put16 (t : State) (l : Loc16) (v : Word) (h : t.mem.wf = true) : (t.put16 l v).mem.wf = true := by
  cases l <;> simp [State.put16, h]

/-- Frame of a byte destination, resolved in `s` and written after the flags. -/
theorem frame_put8 (s t : State) (rm : Rm8) (v : Byte) (fs : List FlagName) (h : Frame s t [] fs []) (hm : t.mem.wf = true) :
    Frame s (t.put8 (s.loc8 rm) v) rm.parts fs (s.stored8 rm) := by
  cases rm with
  | reg r => exact (h.trans (frame_setReg8 t r v)).mono (by simp [Rm8.parts]) (by simp) (by simp)
  | mem m =>
    refine ⟨fun p hp => ?_, fun f hf => h.flags f hf, fun a ha => ?_, ?_⟩
    · have := h.regs p (by simp)
      cases p <;> exact this
    · simp only [State.stored8, List.mem_singleton] at ha
      simp only [State.put8, State.loc8, Memory.byteAt_setByteAt _ _ _ _ hm, if_neg ha]
      exact h.mem a (by simp)
    · simp only [State.put8, State.loc8]
      rw [h.rest]

/-- Frame of a word destination, resolved in `s` and written after the flags. -/
theorem frame_put16 (s t : State) (rm : Rm16) (v : Word) (fs : List FlagName) (h : Frame s t [] fs []) (hm : t.mem.wf = true) :
    Frame s (t.put16 (s.loc16 rm) v) rm.parts fs (s.stored16 rm) := by
  cases rm with
  | reg r => exact (h.trans (frame_setReg16 t r v)).mono (by simp [Rm16.parts]) (by simp) (by simp)
  | mem m =>
    refine ⟨fun p hp => ?_, fun f hf => h.flags f hf, fun a ha => ?_, ?_⟩
    · have := h.regs p (by simp)
      cases p <;> exact this
    · simp only [State.stored16, List.mem_cons, List.not_mem_nil, or_false, not_or] at ha
      simp only [State.put16, State.loc16, Memory.byteAt_setWordAt _ _ _ _ hm, if_neg ha.1, if_neg ha.2]
      exact h.mem a (by simp)
    · simp only [State.put16, State.loc16]
      rw [h.rest]

/-- Everything `modify8` does: the result is in the destination, the flags are those of the operation, nothing else changes. -/
theorem modify8_spec (s : State) (rm : Rm8) (f : Byte → State → Byte × State) (fs : List FlagName) (hw : s.mem.wf = true)
    (hm : (f (s.rm8 rm) s).2.mem = s.mem) (hf : Frame s (f (s.rm8 rm) s).2 [] fs []) :
    (s.modify8 rm f).get8 (s.loc8 rm) = (f (s.rm8 rm) s).1 ∧ (s.modify8 rm f).flags = (f (s.rm8 rm) s).2.flags ∧
      Frame s (s.modify8 rm f) rm.parts fs (s.stored8 rm) :=
  have hw' : (f (s.rm8 rm) s).2.mem.wf = true := by rw [hm]; exact hw
  ⟨get8_put8 _ _ _ hw', flags_put8 _ _ _, frame_put8 s _ rm _ fs hf hw'⟩

/-- Everything `modify16` does: the result is in the destination, the flags are those of the operation, nothing else changes. -/
theorem modify16_spec (s : State) (rm : Rm16) (f : Word → State → Word × State) (fs : List FlagName) (hw : s.mem.wf = true)
    (hm : (f (s.rm16 rm) s).2.mem = s.mem) (hf : Frame s (f (s.rm16 rm) s).2 [] fs []) :
    (s.modify16 rm f).get16 (s.loc16 rm) = (f (s.rm16 rm) s).1 ∧ (s.modify16 rm f).flags = (f (s.rm16 rm) s).2.flags ∧
      Frame s (s.modify16 rm f) rm.parts fs (s.stored16 rm) :=
  have hw' : (f (s.rm16 rm) s).2.mem.wf = true := by rw [hm]; exact hw
  ⟨get16_put16 _ _ _ hw', flags_put16 _ _ _, frame_put16 s _ rm _ fs hf hw'⟩

/-! ## Flags -/

/-- Frame of the flags of an arithmetic result. -/
theorem frame_setArith {n : Nat} (s : State) (x : ArithOut n) : Frame s (s.setFlags (s.flags.setArith x)) [] statusFlags [] :=
  frame_setFlags s _ _ fun f hf => by cases f <;> first | rfl | exact absurd (by simp [statusFlags]) hf

/-- Frame of the flags of INC and DEC. -/
theorem frame_setIncDec {n : Nat} (s : State) (x : ArithOut n) :
    Frame s (s.setFlags (s.flags.setIncDec x)) [] [.pf, .af, .zf, .sf, .of] [] :=
  frame_setFlags s _ _ fun f hf => by cases f <;> first | rfl | exact absurd (by simp) hf

/-- Frame of the flags of a logical result. -/
theorem frame_logicFlags {n : Nat} (s : State) (r : BitVec n) : Frame s (s.logicFlags r) [] statusFlags [] :=
  ⟨fun p _ => by cases p <;> rfl, fun f hf => by cases f <;> first | rfl | exact absurd (by simp [statusFlags]) hf,
    fun _ _ => rfl, rfl⟩

/-- Frame of an undefined flag. -/
theorem frame_undefAF (s : State) : Frame s s.undefAF [] [.af] [] :=
  ⟨fun p _ => by cases p <;> rfl, fun f hf => by cases f <;> first | rfl | exact absurd (by simp) hf, fun _ _ => rfl, rfl⟩

/-- Frame of an undefined flag. -/
theorem frame_undefOF (s : State) : Frame s s.undefOF [] [.of] [] :=
  ⟨fun p _ => by cases p <;> rfl, fun f hf => by cases f <;> first | rfl | exact absurd (by simp) hf, fun _ _ => rfl, rfl⟩

/-- Frame of the flags a MUL leaves undefined (40_arithmetic.md R149). -/
theorem frame_undefAfterMul (s : State) : Frame s s.undefAfterMul [] [.sf, .zf, .af, .pf] [] :=
  ⟨fun p _ => by cases p <;> rfl, fun f hf => by cases f <;> first | rfl | exact absurd (by simp) hf, fun _ _ => rfl, rfl⟩

/-- Frame of the flags a DIV leaves undefined (40_arithmetic.md R150). -/
theorem frame_undefAfterDiv (s : State) : Frame s s.undefAfterDiv [] statusFlags [] :=
  ⟨fun p _ => by cases p <;> rfl, fun f hf => by cases f <;> first | rfl | exact absurd (by simp [statusFlags]) hf,
    fun _ _ => rfl, rfl⟩

end Sys2Proof.Machine
end

