-- ==== Sys2Proof/Laws/Alu.lean ====
section
/-! SUPPORT. What the flag computations and the two-operand operations give, in the numbers of the spec. -/

namespace Sys2Proof.Machine

/-- The carry an operation of 40_arithmetic.md R142 to R146 takes in. -/
def ArithOp.carryIn (op : ArithOp) (c : Bool) : Bool :=
  match op with
  | .adc | .sbb => c
  | .add | .sub | .cmp => false

/-- The model's computation of an operation of 40_arithmetic.md R142 to R146. -/
def ArithOp.out (op : ArithOp) {n : Nat} (a b : BitVec n) (c : Bool) : ArithOut n :=
  if op.adds then addOp a b (op.carryIn c) else subOp a b (op.carryIn c)

/-- PF counts the bits of the low byte (10_state.md R33). -/
theorem popcount_eq {n : Nat} (r : BitVec n) :
    popcount (r.setWidth 8) = (List.range 8).countP fun i => r.toNat.testBit i := by
  have h : ∀ i, i < 8 → (r.setWidth 8).getLsbD i = r.toNat.testBit i := by
    intro i hi
    rw [BitVec.getLsbD_setWidth]
    simp [hi, BitVec.getLsbD]
  simp only [popcount, h 0 (by omega), h 1 (by omega), h 2 (by omega), h 3 (by omega), h 4 (by omega), h 5 (by omega),
    h 6 (by omega), h 7 (by omega)]
  simp only [show List.range 8 = [0, 1, 2, 3, 4, 5, 6, 7] from rfl, List.countP_cons, List.countP_nil]
  generalize r.toNat.testBit 0 = b0; generalize r.toNat.testBit 1 = b1; generalize r.toNat.testBit 2 = b2
  generalize r.toNat.testBit 3 = b3; generalize r.toNat.testBit 4 = b4; generalize r.toNat.testBit 5 = b5
  generalize r.toNat.testBit 6 = b6; generalize r.toNat.testBit 7 = b7
  cases b0 <;> cases b1 <;> cases b2 <;> cases b3 <;> cases b4 <;> cases b5 <;> cases b6 <;> cases b7 <;> rfl

/-- `SetSZP` gives ZF, SF and PF as 10_state.md R33 says. -/
theorem setSZP_spec {n : Nat} (f : Flags) (r : BitVec n) : SZPOf r (f.setSZP r) := by
  refine ⟨?_, ?_, ?_⟩
  · simp only [Flags.setSZP, decide_eq_true_eq]
    exact ⟨fun h => by simp [h], fun h => BitVec.eq_of_toNat_eq (by simpa using h)⟩
  · simp only [Flags.setSZP, BitVec.msb_eq_decide, decide_eq_true_eq]
  · simp only [Flags.setSZP, decide_eq_true_eq, popcount_eq]

/-- ZF, SF and PF are all that the three flags depend on. -/
theorem SZPOf.congr {n : Nat} {r : BitVec n} {f g : Flags} (h : SZPOf r f) (hz : g.ZF = f.ZF) (hs : g.SF = f.SF)
    (hp : g.PF = f.PF) : SZPOf r g := by
  unfold SZPOf at *
  rw [hz, hs, hp]; exact h

/-- The result of the model's computation is the spec's. -/
theorem ArithOp.out_r (op : ArithOp) {n : Nat} (a b : BitVec n) (c : Bool) : (op.out a b c).r = op.result a b c := by
  cases op <;> simp [ArithOp.out, ArithOp.adds, ArithOp.carryIn, ArithOp.result, ArithOp.exact, addOp, subOp] <;> rfl

/-- CF of an addition. -/
theorem addOp_cf {n : Nat} (a b : BitVec n) (k : Bool) :
    (addOp a b k).cf = true ↔ (2 : Int) ^ n ≤ (a.toNat : Int) + b.toNat + k.toNat := by
  have e : ((2 ^ n : Nat) : Int) = (2 : Int) ^ n := by push_cast; rfl
  rw [← e]; simp only [addOp, decide_eq_true_eq]; omega

/-- AF of an addition. -/
theorem addOp_af {n : Nat} (a b : BitVec n) (k : Bool) :
    (addOp a b k).af = true ↔ (16 : Int) ≤ ((a.toNat % 16 : Nat) : Int) + (b.toNat % 16 : Nat) + k.toNat := by
  simp only [addOp, decide_eq_true_eq]; omega

/-- CF of a subtraction: a borrow. -/
theorem subOp_cf {n : Nat} (a b : BitVec n) (k : Bool) :
    (subOp a b k).cf = true ↔ (a.toNat : Int) - b.toNat - k.toNat < 0 := by
  simp only [subOp, decide_eq_true_eq]; omega

/-- AF of a subtraction: a borrow from the low nibble. -/
theorem subOp_af {n : Nat} (a b : BitVec n) (k : Bool) :
    (subOp a b k).af = true ↔ ((a.toNat % 16 : Nat) : Int) - (b.toNat % 16 : Nat) - k.toNat < 0 := by
  simp only [subOp, decide_eq_true_eq]; omega

/-- The six flags of 40_arithmetic.md R141. -/
theorem setArith_spec (op : ArithOp) {n : Nat} (a b : BitVec n) (c : Bool) (f : Flags) :
    op.CarryOf a b c (f.setArith (op.out a b c)) ∧ op.OtherFlagsOf a b c (f.setArith (op.out a b c)) := by
  refine ⟨?_, ?_, ?_, ?_⟩
  · cases op
    · exact (addOp_cf a b false).trans (by simp [ArithOp.adds, ArithOp.exact])
    · exact addOp_cf a b c
    · exact (subOp_cf a b false).trans (by simp [ArithOp.adds, ArithOp.exact])
    · exact subOp_cf a b c
    · exact (subOp_cf a b false).trans (by simp [ArithOp.adds, ArithOp.exact])
  · have h := op.out_r a b c
    cases op <;> simp only [ArithOp.out, ArithOp.adds, ArithOp.carryIn, addOp, subOp, if_true,
      Bool.false_eq_true, if_false, Flags.setArith, Flags.setSZP] at h ⊢ <;> rw [← h] <;> simp
  · cases op
    · exact (addOp_af a b false).trans (by simp [ArithOp.adds, ArithOp.exact])
    · exact addOp_af a b c
    · exact (subOp_af a b false).trans (by simp [ArithOp.adds, ArithOp.exact])
    · exact subOp_af a b c
    · exact (subOp_af a b false).trans (by simp [ArithOp.adds, ArithOp.exact])
  · rw [← op.out_r a b c]
    exact setSZP_spec _ _

/-- The five flags of INC and DEC (40_arithmetic.md R147, R148). -/
theorem setIncDec_spec (op : ArithOp) {n : Nat} (a b : BitVec n) (c : Bool) (f : Flags) :
    op.OtherFlagsOf a b c (f.setIncDec (op.out a b c)) := by
  obtain ⟨-, h1, h2, h3⟩ := setArith_spec op a b c f
  exact ⟨h1, h2, h3⟩

/-- The flags of a logical result (41_logical.md R170). -/
theorem logicFlags_spec {n : Nat} (s : State) (r : BitVec n) : LogicFlagsOf r (s.logicFlags r).flags :=
  ⟨rfl, rfl, (setSZP_spec s.flags r).congr rfl rfl rfl⟩

/-- The two-operand arithmetic of the model, by operation. -/
def ArithOp.alu (op : ArithOp) {n : Nat} (a b : BitVec n) (s : State) : BitVec n × State :=
  ((op.out a b s.flags.CF).r, s.setFlags (s.flags.setArith (op.out a b s.flags.CF)))

/-- ADD is its computation. -/
theorem addAlu_eq {n : Nat} (a b : BitVec n) (s : State) : addAlu a b s = ArithOp.add.alu a b s := rfl

/-- ADC is its computation. -/
theorem adcAlu_eq {n : Nat} (a b : BitVec n) (s : State) : adcAlu a b s = ArithOp.adc.alu a b s := rfl

/-- SUB is its computation. -/
theorem subAlu_eq {n : Nat} (a b : BitVec n) (s : State) : subAlu a b s = ArithOp.sub.alu a b s := rfl

/-- SBB is its computation. -/
theorem sbbAlu_eq {n : Nat} (a b : BitVec n) (s : State) : sbbAlu a b s = ArithOp.sbb.alu a b s := rfl

/-! ## What `exec` does with the families of Safety.lean -/

/-- The bitwise operations of the model, by operation. -/
def LogicOp.alu (op : LogicOp) {n : Nat} (a b : BitVec n) (s : State) : BitVec n × State :=
  match op with
  | .and => andAlu a b s
  | .or => orAlu a b s
  | .xor => xorAlu a b s

/-- The shifts and rotates of the model, by operation. -/
def ShiftOp.alu (op : ShiftOp) {n : Nat} (count : Nat) (v : BitVec n) (s : State) : BitVec n × State :=
  match op with
  | .shl => shlOp count v s
  | .shr => shrOp count v s
  | .sar => sarOp count v s
  | .rol => rolOp count v s
  | .ror => rorOp count v s
  | .rcl => rclOp count v s
  | .rcr => rcrOp count v s

/-- ADD ADC SUB SBB on bytes: the destination is modified. -/
theorem exec_arith_byte (op : ArithOp) (f : ByteForm) (s : State) (h : op ≠ .cmp) :
    exec (op.byteInstr f) s = .next (s.modify8 f.dst fun a t => op.alu a (f.src s) t) := by
  cases op <;> first | exact absurd rfl h | (cases f <;> rfl)

/-- ADD ADC SUB SBB on words: the destination is modified. -/
theorem exec_arith_word (op : ArithOp) (f : WordForm) (s : State) (h : op ≠ .cmp) :
    exec (op.wordInstr f) s = .next (s.modify16 f.dst fun a t => op.alu a (f.src s) t) := by
  cases op <;> first | exact absurd rfl h | (cases f <;> rfl)

/-- CMP on bytes: flags only. -/
theorem exec_cmp_byte (f : ByteForm) (s : State) :
    exec (ArithOp.cmp.byteInstr f) s = .next (ArithOp.cmp.alu (s.rm8 f.dst) (f.src s) s).2 := by cases f <;> rfl

/-- CMP on words: flags only. -/
theorem exec_cmp_word (f : WordForm) (s : State) :
    exec (ArithOp.cmp.wordInstr f) s = .next (ArithOp.cmp.alu (s.rm16 f.dst) (f.src s) s).2 := by cases f <;> rfl

/-- AND OR XOR on bytes: the destination is modified. -/
theorem exec_logic_byte (op : LogicOp) (f : ByteForm) (s : State) :
    exec (op.byteInstr f) s = .next (s.modify8 f.dst fun a t => op.alu a (f.src s) t) := by
  cases op <;> cases f <;> rfl

/-- AND OR XOR on words: the destination is modified. -/
theorem exec_logic_word (op : LogicOp) (f : WordForm) (s : State) :
    exec (op.wordInstr f) s = .next (s.modify16 f.dst fun a t => op.alu a (f.src s) t) := by
  cases op <;> cases f <;> rfl

/-- The shifts and rotates on bytes. -/
theorem exec_shift_byte (op : ShiftOp) (byCl : Bool) (rm : Rm8) (s : State) :
    exec (op.byteInstr byCl rm) s = .next (s.shift8 (fun c v t => op.alu c v t) rm (if byCl then s.countCL else 1)) := by
  cases op <;> cases byCl <;> rfl

/-- The shifts and rotates on words. -/
theorem exec_shift_word (op : ShiftOp) (byCl : Bool) (rm : Rm16) (s : State) :
    exec (op.wordInstr byCl rm) s = .next (s.shift16 (fun c v t => op.alu c v t) rm (if byCl then s.countCL else 1)) := by
  cases op <;> cases byCl <;> rfl

end Sys2Proof.Machine
end

