-- ==== Sys2Proof/Laws/Codec.lean ====
section
/-! SUPPORT. The encoder's fields read back by the decoder, one lemma per operand format. -/

namespace Sys2Proof

/-! ## Fields -/

/-- The word register that its number names. -/
@[simp] theorem Reg16.ofBits_bits (r : Reg16) : Reg16.ofBits r.bits = r := by cases r <;> rfl

/-- The byte register that its number names. -/
@[simp] theorem Reg8.ofBits_bits (r : Reg8) : Reg8.ofBits r.bits = r := by cases r <;> rfl

/-- The segment register that its number names. -/
@[simp] theorem SReg.ofBits_bits (r : SReg) : SReg.ofBits r.bits = r := by cases r <;> rfl

/-- The base expression that its number names. -/
@[simp] theorem Base.ofBits_bits (b : Base) : Base.ofBits b.bits = b := by cases b <;> rfl

/-- The number of the word register that a number names. -/
@[simp] theorem Reg16.bits_ofBits (i : BitVec 3) : (Reg16.ofBits i).bits = i := by revert i; decide

/-- The number of the byte register that a number names. -/
@[simp] theorem Reg8.bits_ofBits (i : BitVec 3) : (Reg8.ofBits i).bits = i := by revert i; decide

/-- The number of the segment register that a number names. -/
@[simp] theorem SReg.bits_ofBits (i : BitVec 2) : (SReg.ofBits i).bits = i := by revert i; decide

/-- The number of the base expression that a number names. -/
@[simp] theorem Base.bits_ofBits (i : BitVec 3) : (Base.ofBits i).bits = i := by revert i; decide

/-- The `mod` field of an assembled ModR/M byte. -/
@[simp] theorem modField_modRM (mod : BitVec 2) (reg rm : BitVec 3) : modField (modRM mod reg rm) = mod := by
  revert mod reg rm; decide

/-- The `reg` field of an assembled ModR/M byte. -/
@[simp] theorem regField_modRM (mod : BitVec 2) (reg rm : BitVec 3) : regField (modRM mod reg rm) = reg := by
  revert mod reg rm; decide

/-- The `rm` field of an assembled ModR/M byte. -/
@[simp] theorem rmField_modRM (mod : BitVec 2) (reg rm : BitVec 3) : rmField (modRM mod reg rm) = rm := by
  revert mod reg rm; decide

/-- A ModR/M byte is its three fields. -/
@[simp] theorem modRM_fields (b : Byte) : modRM (modField b) (regField b) (rmField b) = b := by revert b; decide

/-- The bytes of a joined word. -/
theorem encWord_joinBytes (lo hi : Byte) : encWord (joinBytes lo hi) = [lo, hi] := by
  simp only [encWord, Machine.loByte_joinBytes, Machine.hiByte_joinBytes]

/-! ## Reading back -/

/-- A word is read back. -/
theorem takeWord_encWord (w : Word) (rest : List Byte) (k : Word → List Byte → Decoded) :
    takeWord (encWord w ++ rest) k = k w rest := by
  simp only [encWord, List.cons_append, List.nil_append, takeWord, Machine.joinBytes_lo_hi]

/-- A memory operand is read back after its ModR/M byte: `k` gets its fields, the bytes and the rest. -/
theorem encMem_read (m : MemOp) (reg : BitVec 3) (h : m.wf = true) : ∃ b bs, encMem m reg = b :: bs ∧ regField b = reg ∧
    modField b ≠ 3 ∧ ∀ rest k, takeMem (modField b) (rmField b) (bs ++ rest) k = k m rest := by
  cases m with
  | direct a =>
    refine ⟨_, _, rfl, regField_modRM _ _ _, by rw [modField_modRM]; decide, fun rest k => ?_⟩
    simp only [modField_modRM, rmField_modRM, takeMem, show (0 : BitVec 2).toNat = 0 from rfl, if_true]
    exact takeWord_encWord a rest _
  | based b d =>
    cases d with
    | none =>
      refine ⟨_, _, rfl, regField_modRM _ _ _, by rw [modField_modRM]; decide, fun rest k => ?_⟩
      simp only [modField_modRM, rmField_modRM, takeMem, show (0 : BitVec 2).toNat = 0 from rfl, Base.ofBits_bits,
        List.nil_append]
      cases b <;> first | rfl | exact absurd h (by decide)
    | d8 d =>
      refine ⟨_, _, rfl, regField_modRM _ _ _, by rw [modField_modRM]; decide, fun rest k => ?_⟩
      simp only [modField_modRM, rmField_modRM, takeMem, show (1 : BitVec 2).toNat = 1 from rfl, Base.ofBits_bits]
      rfl
    | d16 d =>
      refine ⟨_, _, rfl, regField_modRM _ _ _, by rw [modField_modRM]; decide, fun rest k => ?_⟩
      simp only [modField_modRM, rmField_modRM, takeMem, show (2 : BitVec 2).toNat = 2 from rfl, Base.ofBits_bits]
      exact takeWord_encWord d rest _

/-- An `r/m8` and its `reg` field are read back. -/
theorem takeRm8_encRm8 (rm : Rm8) (reg : BitVec 3) (rest : List Byte) (k : Rm8 → BitVec 3 → List Byte → Decoded)
    (h : rm.wf = true) : takeRm8 (encRm8 rm reg ++ rest) k = k rm reg rest := by
  cases rm with
  | reg r => simp [encRm8, takeRm8, takeByte]
  | mem m =>
    obtain ⟨b, bs, e, hr, hm, ht⟩ := encMem_read m reg h
    simp only [encRm8, e, takeRm8, takeByte, List.cons_append, if_neg hm, ht, hr]

/-- An `r/m16` and its `reg` field are read back. -/
theorem takeRm16_encRm16 (rm : Rm16) (reg : BitVec 3) (rest : List Byte) (k : Rm16 → BitVec 3 → List Byte → Decoded)
    (h : rm.wf = true) : takeRm16 (encRm16 rm reg ++ rest) k = k rm reg rest := by
  cases rm with
  | reg r => simp [encRm16, takeRm16, takeByte]
  | mem m =>
    obtain ⟨b, bs, e, hr, hm, ht⟩ := encMem_read m reg h
    simp only [encRm16, e, takeRm16, takeByte, List.cons_append, if_neg hm, ht, hr]

/-! ## One lemma per operand format -/

/-- `/r` with a byte operand. -/
theorem decRm8R8_enc (rm : Rm8) (r : Reg8) (rest : List Byte) (k : Rm8 → Reg8 → Instr) (h : rm.wf = true) :
    decRm8R8 (encRm8 rm r.bits ++ rest) k = .ok (k rm r) rest := by
  rw [decRm8R8, takeRm8_encRm8 _ _ _ _ h, Reg8.ofBits_bits]

/-- `/r` with a word operand. -/
theorem decRm16R16_enc (rm : Rm16) (r : Reg16) (rest : List Byte) (k : Rm16 → Reg16 → Instr) (h : rm.wf = true) :
    decRm16R16 (encRm16 rm r.bits ++ rest) k = .ok (k rm r) rest := by
  rw [decRm16R16, takeRm16_encRm16 _ _ _ _ h, Reg16.ofBits_bits]

/-- An `r/m8` alone. -/
theorem decRm8_enc (rm : Rm8) (reg : BitVec 3) (rest : List Byte) (k : Rm8 → Instr) (h : rm.wf = true) :
    decRm8 (encRm8 rm reg ++ rest) k = .ok (k rm) rest := by
  rw [decRm8, takeRm8_encRm8 _ _ _ _ h]

/-- An `r/m16` alone. -/
theorem decRm16_enc (rm : Rm16) (reg : BitVec 3) (rest : List Byte) (k : Rm16 → Instr) (h : rm.wf = true) :
    decRm16 (encRm16 rm reg ++ rest) k = .ok (k rm) rest := by
  rw [decRm16, takeRm16_encRm16 _ _ _ _ h]

/-- An `r/m8` and a byte immediate. -/
theorem decRm8Ib_enc (rm : Rm8) (reg : BitVec 3) (ib : Byte) (rest : List Byte) (k : Rm8 → Byte → Instr) (h : rm.wf = true) :
    decRm8Ib (encRm8 rm reg ++ ([ib] ++ rest)) k = .ok (k rm ib) rest := by
  rw [decRm8Ib, takeRm8_encRm8 _ _ _ _ h]; rfl

/-- An `r/m16` and a byte immediate. -/
theorem decRm16Ib_enc (rm : Rm16) (reg : BitVec 3) (ib : Byte) (rest : List Byte) (k : Rm16 → Byte → Instr) (h : rm.wf = true) :
    decRm16Ib (encRm16 rm reg ++ ([ib] ++ rest)) k = .ok (k rm ib) rest := by
  rw [decRm16Ib, takeRm16_encRm16 _ _ _ _ h]; rfl

/-- An `r/m16` and a word immediate. -/
theorem decRm16Iw_enc (rm : Rm16) (reg : BitVec 3) (iw : Word) (rest : List Byte) (k : Rm16 → Word → Instr) (h : rm.wf = true) :
    decRm16Iw (encRm16 rm reg ++ (encWord iw ++ rest)) k = .ok (k rm iw) rest := by
  rw [decRm16Iw, takeRm16_encRm16 _ _ _ _ h, takeWord_encWord]

/-- A word alone. -/
theorem decIw_enc (w : Word) (rest : List Byte) (k : Word → Instr) : decIw (encWord w ++ rest) k = .ok (k w) rest := by
  rw [decIw, takeWord_encWord]

/-- A far pointer. -/
theorem decPtr_enc (off seg : Word) (rest : List Byte) (k : Word → Word → Instr) :
    decPtr (encWord off ++ (encWord seg ++ rest)) k = .ok (k off seg) rest := by
  rw [decPtr, takeWord_encWord, takeWord_encWord]

/-- An `r/m16` and a segment register. -/
theorem decSReg_enc (rm : Rm16) (sr : SReg) (rest : List Byte) (k : Rm16 → SReg → Instr)
    (bad : BitVec 2 → BitVec 2 → BitVec 3 → Instr) (h : rm.wf = true) :
    decSReg (encRm16 rm (0#1 ++ sr.bits) ++ rest) k bad = .ok (k rm sr) rest := by
  obtain ⟨b, bs, e, hb⟩ : ∃ b bs, encRm16 rm (0#1 ++ sr.bits) = b :: bs ∧ regField b = 0#1 ++ sr.bits := by
    cases rm with
    | reg r => exact ⟨_, _, rfl, regField_modRM _ _ _⟩
    | mem m =>
      obtain ⟨b, bs, e, hr, -, -⟩ := encMem_read m (0#1 ++ sr.bits) h
      exact ⟨b, bs, e, hr⟩
  have h5 : b.getLsbD 5 = false := by
    have : ∀ b : Byte, b.getLsbD 5 = (regField b).getLsbD 2 := by decide
    rw [this, hb]; cases sr <;> rfl
  have hs : (0#1 ++ sr.bits : BitVec 3).extractLsb' 0 2 = sr.bits := by cases sr <;> rfl
  have := takeRm16_encRm16 rm (0#1 ++ sr.bits) rest (fun rm reg rest => .ok (k rm (SReg.ofBits (reg.extractLsb' 0 2))) rest) h
  rw [hs, SReg.ofBits_bits] at this
  rw [e] at this ⊢
  simp only [decSReg, takeByte, List.cons_append, h5, Bool.false_eq_true, if_false]
  exact this

/-- A segment register number above 3. -/
theorem decSReg_bad (mod reg : BitVec 2) (rm : BitVec 3) (rest : List Byte) (k : Rm16 → SReg → Instr)
    (bad : BitVec 2 → BitVec 2 → BitVec 3 → Instr) :
    decSReg (modRM mod (1#1 ++ reg) rm :: rest) k bad = .ok (bad mod reg rm) rest := by
  have h5 : (modRM mod (1#1 ++ reg) rm).getLsbD 5 = true := by revert mod reg rm; decide
  have h3 : (modRM mod (1#1 ++ reg) rm).extractLsb' 3 2 = reg := by revert mod reg rm; decide
  simp only [decSReg, takeByte, h5, h3, if_true, modField_modRM, rmField_modRM]

/-- A word register and a memory operand. -/
theorem decMemR16_enc (m : MemOp) (r : Reg16) (rest : List Byte) (k : Reg16 → MemOp → Instr) (bad : BitVec 3 → BitVec 3 → Instr)
    (h : m.wf = true) : decMemR16 (encMem m r.bits ++ rest) k bad = .ok (k r m) rest := by
  obtain ⟨b, bs, e, hr, hm, ht⟩ := encMem_read m r.bits h
  simp only [e, decMemR16, List.cons_append, takeByte, if_neg hm, ht, hr, Reg16.ofBits_bits]

/-- A word register where a memory operand must stand. -/
theorem decMemR16_bad (reg rm : BitVec 3) (rest : List Byte) (k : Reg16 → MemOp → Instr) (bad : BitVec 3 → BitVec 3 → Instr) :
    decMemR16 (modRM 3 reg rm :: rest) k bad = .ok (bad reg rm) rest := by
  simp only [decMemR16, takeByte, modField_modRM, regField_modRM, rmField_modRM, if_true]

/-- A memory operand alone. -/
theorem decMem_enc (m : MemOp) (reg : BitVec 3) (rest : List Byte) (k : MemOp → Instr) (bad : BitVec 3 → Instr)
    (h : m.wf = true) : decMem (encMem m reg ++ rest) k bad = .ok (k m) rest := by
  obtain ⟨b, bs, e, -, hm, ht⟩ := encMem_read m reg h
  simp only [e, decMem, List.cons_append, takeByte, if_neg hm, ht]

/-- A register where a memory operand must stand. -/
theorem decMem_bad (reg rm : BitVec 3) (rest : List Byte) (k : MemOp → Instr) (bad : BitVec 3 → Instr) :
    decMem (modRM 3 reg rm :: rest) k bad = .ok (bad rm) rest := by
  simp only [decMem, takeByte, modField_modRM, rmField_modRM, if_true]

/-- An unused slot. -/
theorem decSlot_enc (mod : BitVec 2) (reg rm : BitVec 3) (rest : List Byte) (k : BitVec 2 → BitVec 3 → Instr) :
    decSlot (modRM mod reg rm :: rest) k = .ok (k mod rm) rest := by
  simp only [decSlot, takeByte, modField_modRM, rmField_modRM]

/-- A group picks its slot by the `reg` field of a ModR/M byte. -/
theorem decGroup_cons (b : Byte) (bs : List Byte) (pick : Nat → Decoded) :
    decGroup (b :: bs) pick = pick (regField b).toNat := rfl

/-- A group picks the slot of an encoded `r/m8`. -/
theorem decGroup_encRm8 (rm : Rm8) (reg : BitVec 3) (tail : List Byte) (pick : Nat → Decoded) (h : rm.wf = true) :
    decGroup (encRm8 rm reg ++ tail) pick = pick reg.toNat := by
  cases rm with
  | reg r => simp [encRm8, decGroup, takeByte]
  | mem m =>
    obtain ⟨b, bs, e, hr, -, -⟩ := encMem_read m reg h
    simp only [encRm8, e, decGroup, takeByte, List.cons_append, hr]

/-- A group picks the slot of an encoded `r/m16`. -/
theorem decGroup_encRm16 (rm : Rm16) (reg : BitVec 3) (tail : List Byte) (pick : Nat → Decoded) (h : rm.wf = true) :
    decGroup (encRm16 rm reg ++ tail) pick = pick reg.toNat := by
  cases rm with
  | reg r => simp [encRm16, decGroup, takeByte]
  | mem m =>
    obtain ⟨b, bs, e, hr, -, -⟩ := encMem_read m reg h
    simp only [encRm16, e, decGroup, takeByte, List.cons_append, hr]

/-- A group picks the slot of an encoded memory operand. -/
theorem decGroup_encMem (m : MemOp) (reg : BitVec 3) (tail : List Byte) (pick : Nat → Decoded) (h : m.wf = true) :
    decGroup (encMem m reg ++ tail) pick = pick reg.toNat := by
  obtain ⟨b, bs, e, hr, -, -⟩ := encMem_read m reg h
  simp only [e, decGroup, takeByte, List.cons_append, hr]

/-- A group picks the slot of an assembled ModR/M byte. -/
theorem decGroup_modRM (mod : BitVec 2) (reg rm : BitVec 3) (tail : List Byte) (pick : Nat → Decoded) :
    decGroup (modRM mod reg rm :: tail) pick = pick reg.toNat := by
  simp [decGroup, takeByte]

end Sys2Proof
end

