-- ==== Sys2Proof/Laws/Exec.lean ====
section
/-! SUPPORT. What every instruction leaves alone: said once for all the instructions that neither repeat, nor dispatch an interrupt, nor
end the run. -/

namespace Sys2Proof.Machine

/-- `t` differs from `s` in registers, flags, memory, the record of the instruction and the counter of free values at most, and its
memory is canonical when that of `s` is. -/
structure Plain (s t : State) : Prop where
  rest : t = { s with regs := t.regs, flags := t.flags, mem := t.mem, draws := t.draws, cur := t.cur }
  wf : s.mem.wf = true → t.mem.wf = true

/-- A plain change that keeps DF and CS. -/
structure Local (s t : State) : Prop extends Plain s t where
  df : t.flags.DF = s.flags.DF
  cs : t.regs.CS = s.regs.CS

/-- Plain changes compose. -/
theorem Plain.trans {s t u : State} (h : Plain s t) (h' : Plain t u) : Plain s u :=
  ⟨by rw [h'.rest, h.rest], fun w => h'.wf (h.wf w)⟩

/-- Local changes compose. -/
theorem Local.trans {s t u : State} (h : Local s t) (h' : Local t u) : Local s u :=
  ⟨h.toPlain.trans h'.toPlain, h'.df.trans h.df, h'.cs.trans h.cs⟩

/-- No change at all. -/
theorem Local.refl (s : State) : Local s s := ⟨⟨rfl, id⟩, rfl, rfl⟩

/-! ## The shared operations -/

theorem local_setReg8 (s : State) (r : Reg8) (v : Byte) : Local s (s.setReg8 r v) := ⟨⟨rfl, id⟩, rfl, by cases r <;> rfl⟩
theorem local_setReg16 (s : State) (r : Reg16) (v : Word) : Local s (s.setReg16 r v) := ⟨⟨rfl, id⟩, rfl, by cases r <;> rfl⟩
theorem plain_setSReg (s : State) (r : SReg) (v : Word) : Plain s (s.setSReg r v) := ⟨rfl, id⟩
theorem local_setIP (s : State) (v : Word) : Local s (s.setIP v) := ⟨⟨rfl, id⟩, rfl, rfl⟩
theorem plain_setCSIP (s : State) (seg off : Word) : Plain s (s.setCSIP seg off) := ⟨rfl, id⟩
theorem plain_setFlags (s : State) (f : Flags) : Plain s (s.setFlags f) := ⟨rfl, id⟩
theorem local_setFlags (s : State) (f : Flags) (h : f.DF = s.flags.DF) : Local s (s.setFlags f) := ⟨⟨rfl, id⟩, h, rfl⟩
theorem local_write8 (s : State) (seg off : Word) (v : Byte) : Local s (s.write8 seg off v) :=
  ⟨⟨rfl, Memory.wf_write8 _ _ _ _⟩, rfl, rfl⟩
theorem local_write16 (s : State) (seg off v : Word) : Local s (s.write16 seg off v) :=
  ⟨⟨rfl, Memory.wf_write16 _ _ _ _⟩, rfl, rfl⟩
theorem local_put8 (s : State) (l : Loc8) (v : Byte) : Local s (s.put8 l v) := by
  cases l with
  | reg r => exact local_setReg8 s r v
  | mem p => exact ⟨⟨rfl, Memory.wf_setByteAt _ _ _⟩, rfl, rfl⟩
theorem local_put16 (s : State) (l : Loc16) (v : Word) : Local s (s.put16 l v) := by
  cases l with
  | reg r => exact local_setReg16 s r v
  | mem p => exact ⟨⟨rfl, Memory.wf_setWordAt _ _ _⟩, rfl, rfl⟩
theorem local_push16 (s : State) (v : Word) : Local s (s.push16 v) := (local_setReg16 s _ _).trans (local_write16 _ _ _ _)
theorem local_dropTop (s : State) : Local s s.dropTop := local_setReg16 s _ _
theorem local_setSegPrefix (s : State) (r : SReg) : Local s (s.setSegPrefix r) := ⟨⟨rfl, id⟩, rfl, rfl⟩
theorem local_setRepPrefix (s : State) (p : RepPrefix) : Local s (s.setRepPrefix p) := ⟨⟨rfl, id⟩, rfl, rfl⟩
theorem local_logicFlags {n : Nat} (s : State) (r : BitVec n) : Local s (s.logicFlags r) := ⟨⟨rfl, id⟩, rfl, rfl⟩
theorem local_modify8 (s : State) (rm : Rm8) (f : Byte → State → Byte × State) (h : ∀ a t, Local t (f a t).2) :
    Local s (s.modify8 rm f) := (h _ s).trans (local_put8 _ _ _)
theorem local_modify16 (s : State) (rm : Rm16) (f : Word → State → Word × State) (h : ∀ a t, Local t (f a t).2) :
    Local s (s.modify16 rm f) := (h _ s).trans (local_put16 _ _ _)

/-! ## The operations of the arithmetic and logic unit -/

theorem local_addAlu {n : Nat} (a b : BitVec n) (s : State) : Local s (addAlu a b s).2 := local_setFlags s _ rfl
theorem local_adcAlu {n : Nat} (a b : BitVec n) (s : State) : Local s (adcAlu a b s).2 := local_setFlags s _ rfl
theorem local_subAlu {n : Nat} (a b : BitVec n) (s : State) : Local s (subAlu a b s).2 := local_setFlags s _ rfl
theorem local_sbbAlu {n : Nat} (a b : BitVec n) (s : State) : Local s (sbbAlu a b s).2 := local_setFlags s _ rfl
theorem local_incAlu {n : Nat} (a : BitVec n) (s : State) : Local s (incAlu a s).2 := local_setFlags s _ rfl
theorem local_decAlu {n : Nat} (a : BitVec n) (s : State) : Local s (decAlu a s).2 := local_setFlags s _ rfl
theorem local_andAlu {n : Nat} (a b : BitVec n) (s : State) : Local s (andAlu a b s).2 := local_logicFlags s _
theorem local_orAlu {n : Nat} (a b : BitVec n) (s : State) : Local s (orAlu a b s).2 := local_logicFlags s _
theorem local_xorAlu {n : Nat} (a b : BitVec n) (s : State) : Local s (xorAlu a b s).2 := local_logicFlags s _
theorem local_notAlu {n : Nat} (a : BitVec n) (s : State) : Local s (notAlu a s).2 := Local.refl s
theorem local_shiftOF (s : State) (count : Nat) (v : Bool) : Local s (s.shiftOF count v) := by
  unfold State.shiftOF; split
  · exact local_setFlags s _ rfl
  · exact ⟨⟨rfl, id⟩, rfl, rfl⟩
theorem local_afterShift {n : Nat} (s : State) (count : Nat) (r : BitVec n) (cf of : Bool) : Local s (s.afterShift count r cf of) :=
  ((local_setFlags s (({ s.flags with CF := cf } : Flags).setSZP r) rfl).trans (local_shiftOF _ count of)).trans ⟨⟨rfl, id⟩, rfl, rfl⟩
theorem local_afterRotate (s : State) (count : Nat) (cf of : Bool) : Local s (s.afterRotate count cf of) :=
  (local_setFlags s { s.flags with CF := cf } rfl).trans (local_shiftOF _ count of)
theorem local_shift8 (s : State) (op : Nat → Byte → State → Byte × State) (rm : Rm8) (count : Nat)
    (h : ∀ c a t, Local t (op c a t).2) : Local s (s.shift8 op rm count) := by
  unfold State.shift8; split
  · exact Local.refl s
  · exact local_modify8 s rm _ (h count)
theorem local_shift16 (s : State) (op : Nat → Word → State → Word × State) (rm : Rm16) (count : Nat)
    (h : ∀ c a t, Local t (op c a t).2) : Local s (s.shift16 op rm count) := by
  unfold State.shift16; split
  · exact Local.refl s
  · exact local_modify16 s rm _ (h count)
theorem local_mul8 (s : State) (b : Byte) : Local s (s.mul8 b) := ⟨⟨rfl, id⟩, rfl, rfl⟩
theorem local_mul16 (s : State) (b : Word) : Local s (s.mul16 b) := ⟨⟨rfl, id⟩, rfl, rfl⟩

/-! ## Transfers and jumps -/

theorem local_xchg8 (s : State) (rm : Rm8) (r : Reg8) : Local s (s.xchg8 rm r) := (local_put8 s _ _).trans (local_setReg8 _ _ _)
theorem local_xchg16 (s : State) (rm : Rm16) (r : Reg16) : Local s (s.xchg16 rm r) :=
  (local_put16 s _ _).trans (local_setReg16 _ _ _)
theorem local_pushReg (s : State) (r : Reg16) : Local s (s.pushReg r) := by
  unfold State.pushReg; split
  · exact (local_setReg16 s _ _).trans (local_write16 _ _ _ _)
  · exact local_push16 s _
theorem local_popTo (s : State) (rm : Rm16) : Local s (s.popTo rm) := (local_dropTop s).trans (local_put16 _ _ _)
theorem local_setSReg (s : State) (r : SReg) (v : Word) (h : r ≠ .cs) : Local s (s.setSReg r v) :=
  ⟨⟨rfl, id⟩, rfl, by cases r <;> first | rfl | exact absurd rfl h⟩
theorem local_popSReg (s : State) (r : SReg) (h : r ≠ .cs) : Local s (s.popSReg r) := (local_dropTop s).trans (local_setSReg _ _ _ h)
theorem local_loadFar (s : State) (sr : SReg) (r : Reg16) (m : MemOp) (h : sr ≠ .cs) : Local s (s.loadFar sr r m) :=
  (local_setReg16 s _ _).trans (local_setSReg _ _ _ h)
theorem local_jumpIf (s : State) (taken : Bool) (rel : Byte) : Local s (s.jumpIf taken rel) := by
  unfold State.jumpIf; split
  · exact local_setIP s _
  · exact Local.refl s
theorem local_loopIf (s : State) (also : Bool) (rel : Byte) : Local s (s.loopIf also rel) :=
  (local_setReg16 s _ _).trans (local_jumpIf _ _ _)
theorem local_callNear (s : State) (target : Word) : Local s (s.callNear target) := (local_push16 s _).trans (local_setIP _ _)
theorem plain_callFar (s : State) (seg off : Word) : Plain s (s.callFar seg off) :=
  ((local_push16 s _).toPlain.trans (local_push16 _ _).toPlain).trans (plain_setCSIP _ _ _)
theorem local_retNear (s : State) : Local s s.retNear := (local_dropTop s).trans (local_setIP _ _)
theorem plain_retFar (s : State) : Plain s s.retFar :=
  ((local_dropTop s).toPlain.trans (local_dropTop _).toPlain).trans (plain_setCSIP _ _ _)
theorem local_release (s : State) (iw : Word) : Local s (s.release iw) := local_setReg16 s _ _
theorem plain_iret (s : State) : Plain s s.iret := ⟨rfl, id⟩
theorem plain_popf (s : State) : Plain s (s.dropTop.setFlags (Flags.unpack s.top16)) := ⟨rfl, id⟩

/-! ## All instructions -/

/-- The rows that may write DF or CS. -/
def leavesSegment (i : Instr) : Bool :=
  match i with
  | .popf | .iret | .cld | .std | .retf | .retfIw _ | .jmpPtr _ _ | .jmpM16 _ | .callPtr _ _ | .callM16 _
  | .movSregRm16 .cs _ => true
  | _ => false

/-- The rows that do one plain thing: no repetition, no dispatch, no refused encoding. -/
def isPlain (i : Instr) : Bool := !isStringInstr i && !dispatches i && i.decodeError?.isNone

/-- Every plain row but those of `leavesSegment` gives a next state, and keeps DF, CS and all that is neither a register, a flag nor
memory. -/
theorem exec_local (i : Instr) (s : State) (h : (isPlain i && !leavesSegment i) = true) : ∃ t, exec i s = .next t ∧ Local s t := by
  cases i with
  | addRm8R8 _ _ => exact ⟨_, rfl, local_modify8 _ _ _ fun _ _ => local_addAlu _ _ _⟩
  | addRm16R16 _ _ => exact ⟨_, rfl, local_modify16 _ _ _ fun _ _ => local_addAlu _ _ _⟩
  | addR8Rm8 _ _ => exact ⟨_, rfl, local_modify8 _ _ _ fun _ _ => local_addAlu _ _ _⟩
  | addR16Rm16 _ _ => exact ⟨_, rfl, local_modify16 _ _ _ fun _ _ => local_addAlu _ _ _⟩
  | addAlIb _ => exact ⟨_, rfl, local_modify8 _ _ _ fun _ _ => local_addAlu _ _ _⟩
  | addAxIw _ => exact ⟨_, rfl, local_modify16 _ _ _ fun _ _ => local_addAlu _ _ _⟩
  | pushEs => exact ⟨_, rfl, local_push16 _ _⟩
  | popEs => exact ⟨_, rfl, local_popSReg _ _ (by decide)⟩
  | orRm8R8 _ _ => exact ⟨_, rfl, local_modify8 _ _ _ fun _ _ => local_orAlu _ _ _⟩
  | orRm16R16 _ _ => exact ⟨_, rfl, local_modify16 _ _ _ fun _ _ => local_orAlu _ _ _⟩
  | orR8Rm8 _ _ => exact ⟨_, rfl, local_modify8 _ _ _ fun _ _ => local_orAlu _ _ _⟩
  | orR16Rm16 _ _ => exact ⟨_, rfl, local_modify16 _ _ _ fun _ _ => local_orAlu _ _ _⟩
  | orAlIb _ => exact ⟨_, rfl, local_modify8 _ _ _ fun _ _ => local_orAlu _ _ _⟩
  | orAxIw _ => exact ⟨_, rfl, local_modify16 _ _ _ fun _ _ => local_orAlu _ _ _⟩
  | pushCs => exact ⟨_, rfl, local_push16 _ _⟩
  | unimpl0F => exact absurd (show false = true from h) Bool.false_ne_true
  | adcRm8R8 _ _ => exact ⟨_, rfl, local_modify8 _ _ _ fun _ _ => local_adcAlu _ _ _⟩
  | adcRm16R16 _ _ => exact ⟨_, rfl, local_modify16 _ _ _ fun _ _ => local_adcAlu _ _ _⟩
  | adcR8Rm8 _ _ => exact ⟨_, rfl, local_modify8 _ _ _ fun _ _ => local_adcAlu _ _ _⟩
  | adcR16Rm16 _ _ => exact ⟨_, rfl, local_modify16 _ _ _ fun _ _ => local_adcAlu _ _ _⟩
  | adcAlIb _ => exact ⟨_, rfl, local_modify8 _ _ _ fun _ _ => local_adcAlu _ _ _⟩
  | adcAxIw _ => exact ⟨_, rfl, local_modify16 _ _ _ fun _ _ => local_adcAlu _ _ _⟩
  | pushSs => exact ⟨_, rfl, local_push16 _ _⟩
  | popSs => exact ⟨_, rfl, local_popSReg _ _ (by decide)⟩
  | sbbRm8R8 _ _ => exact ⟨_, rfl, local_modify8 _ _ _ fun _ _ => local_sbbAlu _ _ _⟩
  | sbbRm16R16 _ _ => exact ⟨_, rfl, local_modify16 _ _ _ fun _ _ => local_sbbAlu _ _ _⟩
  | sbbR8Rm8 _ _ => exact ⟨_, rfl, local_modify8 _ _ _ fun _ _ => local_sbbAlu _ _ _⟩
  | sbbR16Rm16 _ _ => exact ⟨_, rfl, local_modify16 _ _ _ fun _ _ => local_sbbAlu _ _ _⟩
  | sbbAlIb _ => exact ⟨_, rfl, local_modify8 _ _ _ fun _ _ => local_sbbAlu _ _ _⟩
  | sbbAxIw _ => exact ⟨_, rfl, local_modify16 _ _ _ fun _ _ => local_sbbAlu _ _ _⟩
  | pushDs => exact ⟨_, rfl, local_push16 _ _⟩
  | popDs => exact ⟨_, rfl, local_popSReg _ _ (by decide)⟩
  | andRm8R8 _ _ => exact ⟨_, rfl, local_modify8 _ _ _ fun _ _ => local_andAlu _ _ _⟩
  | andRm16R16 _ _ => exact ⟨_, rfl, local_modify16 _ _ _ fun _ _ => local_andAlu _ _ _⟩
  | andR8Rm8 _ _ => exact ⟨_, rfl, local_modify8 _ _ _ fun _ _ => local_andAlu _ _ _⟩
  | andR16Rm16 _ _ => exact ⟨_, rfl, local_modify16 _ _ _ fun _ _ => local_andAlu _ _ _⟩
  | andAlIb _ => exact ⟨_, rfl, local_modify8 _ _ _ fun _ _ => local_andAlu _ _ _⟩
  | andAxIw _ => exact ⟨_, rfl, local_modify16 _ _ _ fun _ _ => local_andAlu _ _ _⟩
  | prefixEs => exact ⟨_, rfl, local_setSegPrefix _ _⟩
  | unimpl27 => exact absurd (show false = true from h) Bool.false_ne_true
  | subRm8R8 _ _ => exact ⟨_, rfl, local_modify8 _ _ _ fun _ _ => local_subAlu _ _ _⟩
  | subRm16R16 _ _ => exact ⟨_, rfl, local_modify16 _ _ _ fun _ _ => local_subAlu _ _ _⟩
  | subR8Rm8 _ _ => exact ⟨_, rfl, local_modify8 _ _ _ fun _ _ => local_subAlu _ _ _⟩
  | subR16Rm16 _ _ => exact ⟨_, rfl, local_modify16 _ _ _ fun _ _ => local_subAlu _ _ _⟩
  | subAlIb _ => exact ⟨_, rfl, local_modify8 _ _ _ fun _ _ => local_subAlu _ _ _⟩
  | subAxIw _ => exact ⟨_, rfl, local_modify16 _ _ _ fun _ _ => local_subAlu _ _ _⟩
  | prefixCs => exact ⟨_, rfl, local_setSegPrefix _ _⟩
  | unimpl2F => exact absurd (show false = true from h) Bool.false_ne_true
  | xorRm8R8 _ _ => exact ⟨_, rfl, local_modify8 _ _ _ fun _ _ => local_xorAlu _ _ _⟩
  | xorRm16R16 _ _ => exact ⟨_, rfl, local_modify16 _ _ _ fun _ _ => local_xorAlu _ _ _⟩
  | xorR8Rm8 _ _ => exact ⟨_, rfl, local_modify8 _ _ _ fun _ _ => local_xorAlu _ _ _⟩
  | xorR16Rm16 _ _ => exact ⟨_, rfl, local_modify16 _ _ _ fun _ _ => local_xorAlu _ _ _⟩
  | xorAlIb _ => exact ⟨_, rfl, local_modify8 _ _ _ fun _ _ => local_xorAlu _ _ _⟩
  | xorAxIw _ => exact ⟨_, rfl, local_modify16 _ _ _ fun _ _ => local_xorAlu _ _ _⟩
  | prefixSs => exact ⟨_, rfl, local_setSegPrefix _ _⟩
  | unimpl37 => exact absurd (show false = true from h) Bool.false_ne_true
  | cmpRm8R8 _ _ => exact ⟨_, rfl, local_subAlu _ _ _⟩
  | cmpRm16R16 _ _ => exact ⟨_, rfl, local_subAlu _ _ _⟩
  | cmpR8Rm8 _ _ => exact ⟨_, rfl, local_subAlu _ _ _⟩
  | cmpR16Rm16 _ _ => exact ⟨_, rfl, local_subAlu _ _ _⟩
  | cmpAlIb _ => exact ⟨_, rfl, local_subAlu _ _ _⟩
  | cmpAxIw _ => exact ⟨_, rfl, local_subAlu _ _ _⟩
  | prefixDs => exact ⟨_, rfl, local_setSegPrefix _ _⟩
  | unimpl3F => exact absurd (show false = true from h) Bool.false_ne_true
  | incR16 _ => exact ⟨_, rfl, local_modify16 _ _ _ fun _ _ => local_incAlu _ _⟩
  | decR16 _ => exact ⟨_, rfl, local_modify16 _ _ _ fun _ _ => local_decAlu _ _⟩
  | pushR16 _ => exact ⟨_, rfl, local_pushReg _ _⟩
  | popR16 _ => exact ⟨_, rfl, local_popTo _ _⟩
  | unimpl60 => exact absurd (show false = true from h) Bool.false_ne_true
  | unimpl61 => exact absurd (show false = true from h) Bool.false_ne_true
  | unimpl62 => exact absurd (show false = true from h) Bool.false_ne_true
  | unimpl63 => exact absurd (show false = true from h) Bool.false_ne_true
  | unimpl64 => exact absurd (show false = true from h) Bool.false_ne_true
  | unimpl65 => exact absurd (show false = true from h) Bool.false_ne_true
  | unimpl66 => exact absurd (show false = true from h) Bool.false_ne_true
  | unimpl67 => exact absurd (show false = true from h) Bool.false_ne_true
  | unimpl68 => exact absurd (show false = true from h) Bool.false_ne_true
  | unimpl69 => exact absurd (show false = true from h) Bool.false_ne_true
  | unimpl6A => exact absurd (show false = true from h) Bool.false_ne_true
  | unimpl6B => exact absurd (show false = true from h) Bool.false_ne_true
  | unimpl6C => exact absurd (show false = true from h) Bool.false_ne_true
  | unimpl6D => exact absurd (show false = true from h) Bool.false_ne_true
  | unimpl6E => exact absurd (show false = true from h) Bool.false_ne_true
  | unimpl6F => exact absurd (show false = true from h) Bool.false_ne_true
  | jo _ => exact ⟨_, rfl, local_jumpIf _ _ _⟩
  | jno _ => exact ⟨_, rfl, local_jumpIf _ _ _⟩
  | jb _ => exact ⟨_, rfl, local_jumpIf _ _ _⟩
  | jnb _ => exact ⟨_, rfl, local_jumpIf _ _ _⟩
  | jz _ => exact ⟨_, rfl, local_jumpIf _ _ _⟩
  | jnz _ => exact ⟨_, rfl, local_jumpIf _ _ _⟩
  | jbe _ => exact ⟨_, rfl, local_jumpIf _ _ _⟩
  | ja _ => exact ⟨_, rfl, local_jumpIf _ _ _⟩
  | js _ => exact ⟨_, rfl, local_jumpIf _ _ _⟩
  | jns _ => exact ⟨_, rfl, local_jumpIf _ _ _⟩
  | jpe _ => exact ⟨_, rfl, local_jumpIf _ _ _⟩
  | jpo _ => exact ⟨_, rfl, local_jumpIf _ _ _⟩
  | jl _ => exact ⟨_, rfl, local_jumpIf _ _ _⟩
  | jge _ => exact ⟨_, rfl, local_jumpIf _ _ _⟩
  | jle _ => exact ⟨_, rfl, local_jumpIf _ _ _⟩
  | jg _ => exact ⟨_, rfl, local_jumpIf _ _ _⟩
  | addRm8Ib _ _ => exact ⟨_, rfl, local_modify8 _ _ _ fun _ _ => local_addAlu _ _ _⟩
  | orRm8Ib _ _ => exact ⟨_, rfl, local_modify8 _ _ _ fun _ _ => local_orAlu _ _ _⟩
  | adcRm8Ib _ _ => exact ⟨_, rfl, local_modify8 _ _ _ fun _ _ => local_adcAlu _ _ _⟩
  | sbbRm8Ib _ _ => exact ⟨_, rfl, local_modify8 _ _ _ fun _ _ => local_sbbAlu _ _ _⟩
  | andRm8Ib _ _ => exact ⟨_, rfl, local_modify8 _ _ _ fun _ _ => local_andAlu _ _ _⟩
  | subRm8Ib _ _ => exact ⟨_, rfl, local_modify8 _ _ _ fun _ _ => local_subAlu _ _ _⟩
  | xorRm8Ib _ _ => exact ⟨_, rfl, local_modify8 _ _ _ fun _ _ => local_xorAlu _ _ _⟩
  | cmpRm8Ib _ _ => exact ⟨_, rfl, local_subAlu _ _ _⟩
  | addRm16Iw _ _ => exact ⟨_, rfl, local_modify16 _ _ _ fun _ _ => local_addAlu _ _ _⟩
  | orRm16Iw _ _ => exact ⟨_, rfl, local_modify16 _ _ _ fun _ _ => local_orAlu _ _ _⟩
  | adcRm16Iw _ _ => exact ⟨_, rfl, local_modify16 _ _ _ fun _ _ => local_adcAlu _ _ _⟩
  | sbbRm16Iw _ _ => exact ⟨_, rfl, local_modify16 _ _ _ fun _ _ => local_sbbAlu _ _ _⟩
  | andRm16Iw _ _ => exact ⟨_, rfl, local_modify16 _ _ _ fun _ _ => local_andAlu _ _ _⟩
  | subRm16Iw _ _ => exact ⟨_, rfl, local_modify16 _ _ _ fun _ _ => local_subAlu _ _ _⟩
  | xorRm16Iw _ _ => exact ⟨_, rfl, local_modify16 _ _ _ fun _ _ => local_xorAlu _ _ _⟩
  | cmpRm16Iw _ _ => exact ⟨_, rfl, local_subAlu _ _ _⟩
  | addRm8Ib82 _ _ => exact ⟨_, rfl, local_modify8 _ _ _ fun _ _ => local_addAlu _ _ _⟩
  | orRm8Ib82 _ _ => exact ⟨_, rfl, local_modify8 _ _ _ fun _ _ => local_orAlu _ _ _⟩
  | adcRm8Ib82 _ _ => exact ⟨_, rfl, local_modify8 _ _ _ fun _ _ => local_adcAlu _ _ _⟩
  | sbbRm8Ib82 _ _ => exact ⟨_, rfl, local_modify8 _ _ _ fun _ _ => local_sbbAlu _ _ _⟩
  | andRm8Ib82 _ _ => exact ⟨_, rfl, local_modify8 _ _ _ fun _ _ => local_andAlu _ _ _⟩
  | subRm8Ib82 _ _ => exact ⟨_, rfl, local_modify8 _ _ _ fun _ _ => local_subAlu _ _ _⟩
  | xorRm8Ib82 _ _ => exact ⟨_, rfl, local_modify8 _ _ _ fun _ _ => local_xorAlu _ _ _⟩
  | cmpRm8Ib82 _ _ => exact ⟨_, rfl, local_subAlu _ _ _⟩
  | addRm16Sext _ _ => exact ⟨_, rfl, local_modify16 _ _ _ fun _ _ => local_addAlu _ _ _⟩
  | orRm16Sext _ _ => exact ⟨_, rfl, local_modify16 _ _ _ fun _ _ => local_orAlu _ _ _⟩
  | adcRm16Sext _ _ => exact ⟨_, rfl, local_modify16 _ _ _ fun _ _ => local_adcAlu _ _ _⟩
  | sbbRm16Sext _ _ => exact ⟨_, rfl, local_modify16 _ _ _ fun _ _ => local_sbbAlu _ _ _⟩
  | andRm16Sext _ _ => exact ⟨_, rfl, local_modify16 _ _ _ fun _ _ => local_andAlu _ _ _⟩
  | subRm16Sext _ _ => exact ⟨_, rfl, local_modify16 _ _ _ fun _ _ => local_subAlu _ _ _⟩
  | xorRm16Sext _ _ => exact ⟨_, rfl, local_modify16 _ _ _ fun _ _ => local_xorAlu _ _ _⟩
  | cmpRm16Sext _ _ => exact ⟨_, rfl, local_subAlu _ _ _⟩
  | testRm8R8 _ _ => exact ⟨_, rfl, local_andAlu _ _ _⟩
  | testRm16R16 _ _ => exact ⟨_, rfl, local_andAlu _ _ _⟩
  | xchgRm8R8 _ _ => exact ⟨_, rfl, local_xchg8 _ _ _⟩
  | xchgRm16R16 _ _ => exact ⟨_, rfl, local_xchg16 _ _ _⟩
  | movRm8R8 _ _ => exact ⟨_, rfl, local_put8 _ _ _⟩
  | movRm16R16 _ _ => exact ⟨_, rfl, local_put16 _ _ _⟩
  | movR8Rm8 _ _ => exact ⟨_, rfl, local_setReg8 _ _ _⟩
  | movR16Rm16 _ _ => exact ⟨_, rfl, local_setReg16 _ _ _⟩
  | movRm16Sreg _ _ => exact ⟨_, rfl, local_put16 _ _ _⟩
  | unimpl8CReg4to7 _ _ _ => exact absurd (show false = true from h) Bool.false_ne_true
  | leaR16M _ _ => exact ⟨_, rfl, local_setReg16 _ _ _⟩
  | unimpl8DMod3 _ _ => exact absurd (show false = true from h) Bool.false_ne_true
  | movSregRm16 sr rm => cases sr <;> first | exact absurd (show false = true from h) Bool.false_ne_true | exact ⟨_, rfl, local_setSReg _ _ _ (by decide)⟩
  | unimpl8EReg4to7 _ _ _ => exact absurd (show false = true from h) Bool.false_ne_true
  | popRm16 _ => exact ⟨_, rfl, local_popTo _ _⟩
  | unimpl8FSub1 _ _ => exact absurd (show false = true from h) Bool.false_ne_true
  | unimpl8FSub2 _ _ => exact absurd (show false = true from h) Bool.false_ne_true
  | unimpl8FSub3 _ _ => exact absurd (show false = true from h) Bool.false_ne_true
  | unimpl8FSub4 _ _ => exact absurd (show false = true from h) Bool.false_ne_true
  | unimpl8FSub5 _ _ => exact absurd (show false = true from h) Bool.false_ne_true
  | unimpl8FSub6 _ _ => exact absurd (show false = true from h) Bool.false_ne_true
  | unimpl8FSub7 _ _ => exact absurd (show false = true from h) Bool.false_ne_true
  | xchgAxR16 _ => exact ⟨_, rfl, local_xchg16 _ _ _⟩
  | unimpl98 => exact absurd (show false = true from h) Bool.false_ne_true
  | unimpl99 => exact absurd (show false = true from h) Bool.false_ne_true
  | callPtr _ _ => exact absurd (show false = true from h) Bool.false_ne_true
  | unimpl9B => exact absurd (show false = true from h) Bool.false_ne_true
  | pushf => exact ⟨_, rfl, local_push16 _ _⟩
  | popf => exact absurd (show false = true from h) Bool.false_ne_true
  | unimpl9E => exact absurd (show false = true from h) Bool.false_ne_true
  | unimpl9F => exact absurd (show false = true from h) Bool.false_ne_true
  | movAlMoffs _ => exact ⟨_, rfl, local_setReg8 _ _ _⟩
  | movAxMoffs _ => exact ⟨_, rfl, local_setReg16 _ _ _⟩
  | movMoffsAl _ => exact ⟨_, rfl, local_write8 _ _ _ _⟩
  | movMoffsAx _ => exact ⟨_, rfl, local_write16 _ _ _ _⟩
  | movsb => exact absurd (show false = true from h) Bool.false_ne_true
  | movsw => exact absurd (show false = true from h) Bool.false_ne_true
  | cmpsb => exact absurd (show false = true from h) Bool.false_ne_true
  | cmpsw => exact absurd (show false = true from h) Bool.false_ne_true
  | testAlIb _ => exact ⟨_, rfl, local_andAlu _ _ _⟩
  | testAxIw _ => exact ⟨_, rfl, local_andAlu _ _ _⟩
  | stosb => exact absurd (show false = true from h) Bool.false_ne_true
  | stosw => exact absurd (show false = true from h) Bool.false_ne_true
  | lodsb => exact absurd (show false = true from h) Bool.false_ne_true
  | lodsw => exact absurd (show false = true from h) Bool.false_ne_true
  | scasb => exact absurd (show false = true from h) Bool.false_ne_true
  | scasw => exact absurd (show false = true from h) Bool.false_ne_true
  | movR8Ib _ _ => exact ⟨_, rfl, local_setReg8 _ _ _⟩
  | movR16Iw _ _ => exact ⟨_, rfl, local_setReg16 _ _ _⟩
  | unimplC0 => exact absurd (show false = true from h) Bool.false_ne_true
  | unimplC1 => exact absurd (show false = true from h) Bool.false_ne_true
  | retIw _ => exact ⟨_, rfl, (local_retNear _).trans (local_release _ _)⟩
  | ret => exact ⟨_, rfl, local_retNear _⟩
  | lesR16M _ _ => exact ⟨_, rfl, local_loadFar _ _ _ _ (by decide)⟩
  | unimplC4Mod3 _ _ => exact absurd (show false = true from h) Bool.false_ne_true
  | ldsR16M _ _ => exact ⟨_, rfl, local_loadFar _ _ _ _ (by decide)⟩
  | unimplC5Mod3 _ _ => exact absurd (show false = true from h) Bool.false_ne_true
  | movRm8Ib _ _ => exact ⟨_, rfl, local_put8 _ _ _⟩
  | unimplC6Sub1 _ _ => exact absurd (show false = true from h) Bool.false_ne_true
  | unimplC6Sub2 _ _ => exact absurd (show false = true from h) Bool.false_ne_true
  | unimplC6Sub3 _ _ => exact absurd (show false = true from h) Bool.false_ne_true
  | unimplC6Sub4 _ _ => exact absurd (show false = true from h) Bool.false_ne_true
  | unimplC6Sub5 _ _ => exact absurd (show false = true from h) Bool.false_ne_true
  | unimplC6Sub6 _ _ => exact absurd (show false = true from h) Bool.false_ne_true
  | unimplC6Sub7 _ _ => exact absurd (show false = true from h) Bool.false_ne_true
  | movRm16Iw _ _ => exact ⟨_, rfl, local_put16 _ _ _⟩
  | unimplC7Sub1 _ _ => exact absurd (show false = true from h) Bool.false_ne_true
  | unimplC7Sub2 _ _ => exact absurd (show false = true from h) Bool.false_ne_true
  | unimplC7Sub3 _ _ => exact absurd (show false = true from h) Bool.false_ne_true
  | unimplC7Sub4 _ _ => exact absurd (show false = true from h) Bool.false_ne_true
  | unimplC7Sub5 _ _ => exact absurd (show false = true from h) Bool.false_ne_true
  | unimplC7Sub6 _ _ => exact absurd (show false = true from h) Bool.false_ne_true
  | unimplC7Sub7 _ _ => exact absurd (show false = true from h) Bool.false_ne_true
  | unimplC8 => exact absurd (show false = true from h) Bool.false_ne_true
  | unimplC9 => exact absurd (show false = true from h) Bool.false_ne_true
  | retfIw _ => exact absurd (show false = true from h) Bool.false_ne_true
  | retf => exact absurd (show false = true from h) Bool.false_ne_true
  | int3 => exact absurd (show false = true from h) Bool.false_ne_true
  | intIb _ => exact absurd (show false = true from h) Bool.false_ne_true
  | unimplCE => exact absurd (show false = true from h) Bool.false_ne_true
  | iret => exact absurd (show false = true from h) Bool.false_ne_true
  | rolRm8One _ => exact ⟨_, rfl, local_shift8 _ _ _ _ fun _ _ _ => local_afterRotate _ _ _ _⟩
  | rorRm8One _ => exact ⟨_, rfl, local_shift8 _ _ _ _ fun _ _ _ => local_afterRotate _ _ _ _⟩
  | rclRm8One _ => exact ⟨_, rfl, local_shift8 _ _ _ _ fun _ _ _ => local_afterRotate _ _ _ _⟩
  | rcrRm8One _ => exact ⟨_, rfl, local_shift8 _ _ _ _ fun _ _ _ => local_afterRotate _ _ _ _⟩
  | shlRm8One _ => exact ⟨_, rfl, local_shift8 _ _ _ _ fun _ _ _ => local_afterShift _ _ _ _ _⟩
  | shrRm8One _ => exact ⟨_, rfl, local_shift8 _ _ _ _ fun _ _ _ => local_afterShift _ _ _ _ _⟩
  | unimplD0Sub6 _ _ => exact absurd (show false = true from h) Bool.false_ne_true
  | sarRm8One _ => exact ⟨_, rfl, local_shift8 _ _ _ _ fun _ _ _ => local_afterShift _ _ _ _ _⟩
  | rolRm16One _ => exact ⟨_, rfl, local_shift16 _ _ _ _ fun _ _ _ => local_afterRotate _ _ _ _⟩
  | rorRm16One _ => exact ⟨_, rfl, local_shift16 _ _ _ _ fun _ _ _ => local_afterRotate _ _ _ _⟩
  | rclRm16One _ => exact ⟨_, rfl, local_shift16 _ _ _ _ fun _ _ _ => local_afterRotate _ _ _ _⟩
  | rcrRm16One _ => exact ⟨_, rfl, local_shift16 _ _ _ _ fun _ _ _ => local_afterRotate _ _ _ _⟩
  | shlRm16One _ => exact ⟨_, rfl, local_shift16 _ _ _ _ fun _ _ _ => local_afterShift _ _ _ _ _⟩
  | shrRm16One _ => exact ⟨_, rfl, local_shift16 _ _ _ _ fun _ _ _ => local_afterShift _ _ _ _ _⟩
  | unimplD1Sub6 _ _ => exact absurd (show false = true from h) Bool.false_ne_true
  | sarRm16One _ => exact ⟨_, rfl, local_shift16 _ _ _ _ fun _ _ _ => local_afterShift _ _ _ _ _⟩
  | rolRm8Cl _ => exact ⟨_, rfl, local_shift8 _ _ _ _ fun _ _ _ => local_afterRotate _ _ _ _⟩
  | rorRm8Cl _ => exact ⟨_, rfl, local_shift8 _ _ _ _ fun _ _ _ => local_afterRotate _ _ _ _⟩
  | rclRm8Cl _ => exact ⟨_, rfl, local_shift8 _ _ _ _ fun _ _ _ => local_afterRotate _ _ _ _⟩
  | rcrRm8Cl _ => exact ⟨_, rfl, local_shift8 _ _ _ _ fun _ _ _ => local_afterRotate _ _ _ _⟩
  | shlRm8Cl _ => exact ⟨_, rfl, local_shift8 _ _ _ _ fun _ _ _ => local_afterShift _ _ _ _ _⟩
  | shrRm8Cl _ => exact ⟨_, rfl, local_shift8 _ _ _ _ fun _ _ _ => local_afterShift _ _ _ _ _⟩
  | unimplD2Sub6 _ _ => exact absurd (show false = true from h) Bool.false_ne_true
  | sarRm8Cl _ => exact ⟨_, rfl, local_shift8 _ _ _ _ fun _ _ _ => local_afterShift _ _ _ _ _⟩
  | rolRm16Cl _ => exact ⟨_, rfl, local_shift16 _ _ _ _ fun _ _ _ => local_afterRotate _ _ _ _⟩
  | rorRm16Cl _ => exact ⟨_, rfl, local_shift16 _ _ _ _ fun _ _ _ => local_afterRotate _ _ _ _⟩
  | rclRm16Cl _ => exact ⟨_, rfl, local_shift16 _ _ _ _ fun _ _ _ => local_afterRotate _ _ _ _⟩
  | rcrRm16Cl _ => exact ⟨_, rfl, local_shift16 _ _ _ _ fun _ _ _ => local_afterRotate _ _ _ _⟩
  | shlRm16Cl _ => exact ⟨_, rfl, local_shift16 _ _ _ _ fun _ _ _ => local_afterShift _ _ _ _ _⟩
  | shrRm16Cl _ => exact ⟨_, rfl, local_shift16 _ _ _ _ fun _ _ _ => local_afterShift _ _ _ _ _⟩
  | unimplD3Sub6 _ _ => exact absurd (show false = true from h) Bool.false_ne_true
  | sarRm16Cl _ => exact ⟨_, rfl, local_shift16 _ _ _ _ fun _ _ _ => local_afterShift _ _ _ _ _⟩
  | unimplD4 => exact absurd (show false = true from h) Bool.false_ne_true
  | unimplD5 => exact absurd (show false = true from h) Bool.false_ne_true
  | unimplD6 => exact absurd (show false = true from h) Bool.false_ne_true
  | unimplD7 => exact absurd (show false = true from h) Bool.false_ne_true
  | unimplD8 => exact absurd (show false = true from h) Bool.false_ne_true
  | unimplD9 => exact absurd (show false = true from h) Bool.false_ne_true
  | unimplDA => exact absurd (show false = true from h) Bool.false_ne_true
  | unimplDB => exact absurd (show false = true from h) Bool.false_ne_true
  | unimplDC => exact absurd (show false = true from h) Bool.false_ne_true
  | unimplDD => exact absurd (show false = true from h) Bool.false_ne_true
  | unimplDE => exact absurd (show false = true from h) Bool.false_ne_true
  | unimplDF => exact absurd (show false = true from h) Bool.false_ne_true
  | loopne _ => exact ⟨_, rfl, local_loopIf _ _ _⟩
  | loope _ => exact ⟨_, rfl, local_loopIf _ _ _⟩
  | loop _ => exact ⟨_, rfl, local_loopIf _ _ _⟩
  | jcxz _ => exact ⟨_, rfl, local_jumpIf _ _ _⟩
  | unimplE4 => exact absurd (show false = true from h) Bool.false_ne_true
  | unimplE5 => exact absurd (show false = true from h) Bool.false_ne_true
  | unimplE6 => exact absurd (show false = true from h) Bool.false_ne_true
  | unimplE7 => exact absurd (show false = true from h) Bool.false_ne_true
  | callRel16 _ => exact ⟨_, rfl, local_callNear _ _⟩
  | jmpRel16 _ => exact ⟨_, rfl, local_setIP _ _⟩
  | jmpPtr _ _ => exact absurd (show false = true from h) Bool.false_ne_true
  | jmpRel8 _ => exact ⟨_, rfl, local_setIP _ _⟩
  | unimplEC => exact absurd (show false = true from h) Bool.false_ne_true
  | unimplED => exact absurd (show false = true from h) Bool.false_ne_true
  | unimplEE => exact absurd (show false = true from h) Bool.false_ne_true
  | unimplEF => exact absurd (show false = true from h) Bool.false_ne_true
  | unimplF0 => exact absurd (show false = true from h) Bool.false_ne_true
  | unimplF1 => exact absurd (show false = true from h) Bool.false_ne_true
  | prefixRepnz => exact ⟨_, rfl, local_setRepPrefix _ _⟩
  | prefixRep => exact ⟨_, rfl, local_setRepPrefix _ _⟩
  | unimplF4 => exact absurd (show false = true from h) Bool.false_ne_true
  | cmc => exact ⟨_, rfl, local_setFlags _ _ rfl⟩
  | testRm8Ib _ _ => exact ⟨_, rfl, local_andAlu _ _ _⟩
  | unimplF6Sub1 _ _ => exact absurd (show false = true from h) Bool.false_ne_true
  | notRm8 _ => exact ⟨_, rfl, local_modify8 _ _ _ fun _ _ => local_notAlu _ _⟩
  | unimplF6Sub3 _ _ => exact absurd (show false = true from h) Bool.false_ne_true
  | mulRm8 _ => exact ⟨_, rfl, local_mul8 _ _⟩
  | unimplF6Sub5 _ _ => exact absurd (show false = true from h) Bool.false_ne_true
  | divRm8 _ => exact absurd (show false = true from h) Bool.false_ne_true
  | unimplF6Sub7 _ _ => exact absurd (show false = true from h) Bool.false_ne_true
  | testRm16Iw _ _ => exact ⟨_, rfl, local_andAlu _ _ _⟩
  | unimplF7Sub1 _ _ => exact absurd (show false = true from h) Bool.false_ne_true
  | notRm16 _ => exact ⟨_, rfl, local_modify16 _ _ _ fun _ _ => local_notAlu _ _⟩
  | unimplF7Sub3 _ _ => exact absurd (show false = true from h) Bool.false_ne_true
  | mulRm16 _ => exact ⟨_, rfl, local_mul16 _ _⟩
  | unimplF7Sub5 _ _ => exact absurd (show false = true from h) Bool.false_ne_true
  | divRm16 _ => exact absurd (show false = true from h) Bool.false_ne_true
  | unimplF7Sub7 _ _ => exact absurd (show false = true from h) Bool.false_ne_true
  | clc => exact ⟨_, rfl, local_setFlags _ _ rfl⟩
  | stc => exact ⟨_, rfl, local_setFlags _ _ rfl⟩
  | cli => exact ⟨_, rfl, local_setFlags _ _ rfl⟩
  | sti => exact ⟨_, rfl, local_setFlags _ _ rfl⟩
  | cld => exact absurd (show false = true from h) Bool.false_ne_true
  | std => exact absurd (show false = true from h) Bool.false_ne_true
  | incRm8 _ => exact ⟨_, rfl, local_modify8 _ _ _ fun _ _ => local_incAlu _ _⟩
  | decRm8 _ => exact ⟨_, rfl, local_modify8 _ _ _ fun _ _ => local_decAlu _ _⟩
  | unimplFESub2 _ _ => exact absurd (show false = true from h) Bool.false_ne_true
  | unimplFESub3 _ _ => exact absurd (show false = true from h) Bool.false_ne_true
  | unimplFESub4 _ _ => exact absurd (show false = true from h) Bool.false_ne_true
  | unimplFESub5 _ _ => exact absurd (show false = true from h) Bool.false_ne_true
  | unimplFESub6 _ _ => exact absurd (show false = true from h) Bool.false_ne_true
  | unimplFESub7 _ _ => exact absurd (show false = true from h) Bool.false_ne_true
  | incRm16 _ => exact ⟨_, rfl, local_modify16 _ _ _ fun _ _ => local_incAlu _ _⟩
  | decRm16 _ => exact ⟨_, rfl, local_modify16 _ _ _ fun _ _ => local_decAlu _ _⟩
  | callRm16 _ => exact ⟨_, rfl, local_callNear _ _⟩
  | callM16 _ => exact absurd (show false = true from h) Bool.false_ne_true
  | jmpRm16 _ => exact ⟨_, rfl, local_setIP _ _⟩
  | jmpM16 _ => exact absurd (show false = true from h) Bool.false_ne_true
  | pushRm16 rm => cases rm with
    | reg r => exact ⟨_, rfl, local_pushReg _ _⟩
    | mem m => exact ⟨_, rfl, local_push16 _ _⟩
  | unimplFFSub7 _ _ => exact absurd (show false = true from h) Bool.false_ne_true
  | unimplFFSub3Mod3 _ => exact absurd (show false = true from h) Bool.false_ne_true
  | unimplFFSub5Mod3 _ => exact absurd (show false = true from h) Bool.false_ne_true

/-- Every plain row gives a next state, and keeps all that is neither a register, a flag nor memory. -/
theorem exec_plain (i : Instr) (s : State) (h : isPlain i = true) : ∃ t, exec i s = .next t ∧ Plain s t := by
  by_cases hl : leavesSegment i = true
  · unfold leavesSegment at hl
    split at hl
    · exact ⟨_, rfl, plain_popf _⟩
    · exact ⟨_, rfl, plain_iret _⟩
    · exact ⟨_, rfl, plain_setFlags _ _⟩
    · exact ⟨_, rfl, plain_setFlags _ _⟩
    · exact ⟨_, rfl, plain_retFar _⟩
    · exact ⟨_, rfl, (plain_retFar _).trans (local_release _ _).toPlain⟩
    · exact ⟨_, rfl, plain_setCSIP _ _ _⟩
    · exact ⟨_, rfl, plain_setCSIP _ _ _⟩
    · exact ⟨_, rfl, plain_callFar _ _ _⟩
    · exact ⟨_, rfl, plain_callFar _ _ _⟩
    · exact ⟨_, rfl, plain_setSReg _ _ _⟩
    · exact absurd (show false = true from hl) Bool.false_ne_true
  · obtain ⟨t, ht, hl⟩ := exec_local i s (by simp [h, hl])
    exact ⟨t, ht, hl.toPlain⟩

/-- A refused encoding takes the fatal path. -/
theorem exec_refused (i : Instr) (k : DecodeErrorKind) (s : State) (h : i.decodeError? = some k) :
    exec i s = .next (State.raise s s (k.error s.cur.bytes s.LAST_CS s.LAST_IP)) := by
  cases i with
  | addRm8R8 _ _ => exact nomatch h
  | addRm16R16 _ _ => exact nomatch h
  | addR8Rm8 _ _ => exact nomatch h
  | addR16Rm16 _ _ => exact nomatch h
  | addAlIb _ => exact nomatch h
  | addAxIw _ => exact nomatch h
  | pushEs => exact nomatch h
  | popEs => exact nomatch h
  | orRm8R8 _ _ => exact nomatch h
  | orRm16R16 _ _ => exact nomatch h
  | orR8Rm8 _ _ => exact nomatch h
  | orR16Rm16 _ _ => exact nomatch h
  | orAlIb _ => exact nomatch h
  | orAxIw _ => exact nomatch h
  | pushCs => exact nomatch h
  | unimpl0F => exact (by injection h with h; subst h; rfl)
  | adcRm8R8 _ _ => exact nomatch h
  | adcRm16R16 _ _ => exact nomatch h
  | adcR8Rm8 _ _ => exact nomatch h
  | adcR16Rm16 _ _ => exact nomatch h
  | adcAlIb _ => exact nomatch h
  | adcAxIw _ => exact nomatch h
  | pushSs => exact nomatch h
  | popSs => exact nomatch h
  | sbbRm8R8 _ _ => exact nomatch h
  | sbbRm16R16 _ _ => exact nomatch h
  | sbbR8Rm8 _ _ => exact nomatch h
  | sbbR16Rm16 _ _ => exact nomatch h
  | sbbAlIb _ => exact nomatch h
  | sbbAxIw _ => exact nomatch h
  | pushDs => exact nomatch h
  | popDs => exact nomatch h
  | andRm8R8 _ _ => exact nomatch h
  | andRm16R16 _ _ => exact nomatch h
  | andR8Rm8 _ _ => exact nomatch h
  | andR16Rm16 _ _ => exact nomatch h
  | andAlIb _ => exact nomatch h
  | andAxIw _ => exact nomatch h
  | prefixEs => exact nomatch h
  | unimpl27 => exact (by injection h with h; subst h; rfl)
  | subRm8R8 _ _ => exact nomatch h
  | subRm16R16 _ _ => exact nomatch h
  | subR8Rm8 _ _ => exact nomatch h
  | subR16Rm16 _ _ => exact nomatch h
  | subAlIb _ => exact nomatch h
  | subAxIw _ => exact nomatch h
  | prefixCs => exact nomatch h
  | unimpl2F => exact (by injection h with h; subst h; rfl)
  | xorRm8R8 _ _ => exact nomatch h
  | xorRm16R16 _ _ => exact nomatch h
  | xorR8Rm8 _ _ => exact nomatch h
  | xorR16Rm16 _ _ => exact nomatch h
  | xorAlIb _ => exact nomatch h
  | xorAxIw _ => exact nomatch h
  | prefixSs => exact nomatch h
  | unimpl37 => exact (by injection h with h; subst h; rfl)
  | cmpRm8R8 _ _ => exact nomatch h
  | cmpRm16R16 _ _ => exact nomatch h
  | cmpR8Rm8 _ _ => exact nomatch h
  | cmpR16Rm16 _ _ => exact nomatch h
  | cmpAlIb _ => exact nomatch h
  | cmpAxIw _ => exact nomatch h
  | prefixDs => exact nomatch h
  | unimpl3F => exact (by injection h with h; subst h; rfl)
  | incR16 _ => exact nomatch h
  | decR16 _ => exact nomatch h
  | pushR16 _ => exact nomatch h
  | popR16 _ => exact nomatch h
  | unimpl60 => exact (by injection h with h; subst h; rfl)
  | unimpl61 => exact (by injection h with h; subst h; rfl)
  | unimpl62 => exact (by injection h with h; subst h; rfl)
  | unimpl63 => exact (by injection h with h; subst h; rfl)
  | unimpl64 => exact (by injection h with h; subst h; rfl)
  | unimpl65 => exact (by injection h with h; subst h; rfl)
  | unimpl66 => exact (by injection h with h; subst h; rfl)
  | unimpl67 => exact (by injection h with h; subst h; rfl)
  | unimpl68 => exact (by injection h with h; subst h; rfl)
  | unimpl69 => exact (by injection h with h; subst h; rfl)
  | unimpl6A => exact (by injection h with h; subst h; rfl)
  | unimpl6B => exact (by injection h with h; subst h; rfl)
  | unimpl6C => exact (by injection h with h; subst h; rfl)
  | unimpl6D => exact (by injection h with h; subst h; rfl)
  | unimpl6E => exact (by injection h with h; subst h; rfl)
  | unimpl6F => exact (by injection h with h; subst h; rfl)
  | jo _ => exact nomatch h
  | jno _ => exact nomatch h
  | jb _ => exact nomatch h
  | jnb _ => exact nomatch h
  | jz _ => exact nomatch h
  | jnz _ => exact nomatch h
  | jbe _ => exact nomatch h
  | ja _ => exact nomatch h
  | js _ => exact nomatch h
  | jns _ => exact nomatch h
  | jpe _ => exact nomatch h
  | jpo _ => exact nomatch h
  | jl _ => exact nomatch h
  | jge _ => exact nomatch h
  | jle _ => exact nomatch h
  | jg _ => exact nomatch h
  | addRm8Ib _ _ => exact nomatch h
  | orRm8Ib _ _ => exact nomatch h
  | adcRm8Ib _ _ => exact nomatch h
  | sbbRm8Ib _ _ => exact nomatch h
  | andRm8Ib _ _ => exact nomatch h
  | subRm8Ib _ _ => exact nomatch h
  | xorRm8Ib _ _ => exact nomatch h
  | cmpRm8Ib _ _ => exact nomatch h
  | addRm16Iw _ _ => exact nomatch h
  | orRm16Iw _ _ => exact nomatch h
  | adcRm16Iw _ _ => exact nomatch h
  | sbbRm16Iw _ _ => exact nomatch h
  | andRm16Iw _ _ => exact nomatch h
  | subRm16Iw _ _ => exact nomatch h
  | xorRm16Iw _ _ => exact nomatch h
  | cmpRm16Iw _ _ => exact nomatch h
  | addRm8Ib82 _ _ => exact nomatch h
  | orRm8Ib82 _ _ => exact nomatch h
  | adcRm8Ib82 _ _ => exact nomatch h
  | sbbRm8Ib82 _ _ => exact nomatch h
  | andRm8Ib82 _ _ => exact nomatch h
  | subRm8Ib82 _ _ => exact nomatch h
  | xorRm8Ib82 _ _ => exact nomatch h
  | cmpRm8Ib82 _ _ => exact nomatch h
  | addRm16Sext _ _ => exact nomatch h
  | orRm16Sext _ _ => exact nomatch h
  | adcRm16Sext _ _ => exact nomatch h
  | sbbRm16Sext _ _ => exact nomatch h
  | andRm16Sext _ _ => exact nomatch h
  | subRm16Sext _ _ => exact nomatch h
  | xorRm16Sext _ _ => exact nomatch h
  | cmpRm16Sext _ _ => exact nomatch h
  | testRm8R8 _ _ => exact nomatch h
  | testRm16R16 _ _ => exact nomatch h
  | xchgRm8R8 _ _ => exact nomatch h
  | xchgRm16R16 _ _ => exact nomatch h
  | movRm8R8 _ _ => exact nomatch h
  | movRm16R16 _ _ => exact nomatch h
  | movR8Rm8 _ _ => exact nomatch h
  | movR16Rm16 _ _ => exact nomatch h
  | movRm16Sreg _ _ => exact nomatch h
  | unimpl8CReg4to7 _ _ _ => exact (by injection h with h; subst h; rfl)
  | leaR16M _ _ => exact nomatch h
  | unimpl8DMod3 _ _ => exact (by injection h with h; subst h; rfl)
  | movSregRm16 _ _ => exact nomatch h
  | unimpl8EReg4to7 _ _ _ => exact (by injection h with h; subst h; rfl)
  | popRm16 _ => exact nomatch h
  | unimpl8FSub1 _ _ => exact (by injection h with h; subst h; rfl)
  | unimpl8FSub2 _ _ => exact (by injection h with h; subst h; rfl)
  | unimpl8FSub3 _ _ => exact (by injection h with h; subst h; rfl)
  | unimpl8FSub4 _ _ => exact (by injection h with h; subst h; rfl)
  | unimpl8FSub5 _ _ => exact (by injection h with h; subst h; rfl)
  | unimpl8FSub6 _ _ => exact (by injection h with h; subst h; rfl)
  | unimpl8FSub7 _ _ => exact (by injection h with h; subst h; rfl)
  | xchgAxR16 _ => exact nomatch h
  | unimpl98 => exact (by injection h with h; subst h; rfl)
  | unimpl99 => exact (by injection h with h; subst h; rfl)
  | callPtr _ _ => exact nomatch h
  | unimpl9B => exact (by injection h with h; subst h; rfl)
  | pushf => exact nomatch h
  | popf => exact nomatch h
  | unimpl9E => exact (by injection h with h; subst h; rfl)
  | unimpl9F => exact (by injection h with h; subst h; rfl)
  | movAlMoffs _ => exact nomatch h
  | movAxMoffs _ => exact nomatch h
  | movMoffsAl _ => exact nomatch h
  | movMoffsAx _ => exact nomatch h
  | movsb => exact nomatch h
  | movsw => exact nomatch h
  | cmpsb => exact nomatch h
  | cmpsw => exact nomatch h
  | testAlIb _ => exact nomatch h
  | testAxIw _ => exact nomatch h
  | stosb => exact nomatch h
  | stosw => exact nomatch h
  | lodsb => exact nomatch h
  | lodsw => exact nomatch h
  | scasb => exact nomatch h
  | scasw => exact nomatch h
  | movR8Ib _ _ => exact nomatch h
  | movR16Iw _ _ => exact nomatch h
  | unimplC0 => exact (by injection h with h; subst h; rfl)
  | unimplC1 => exact (by injection h with h; subst h; rfl)
  | retIw _ => exact nomatch h
  | ret => exact nomatch h
  | lesR16M _ _ => exact nomatch h
  | unimplC4Mod3 _ _ => exact (by injection h with h; subst h; rfl)
  | ldsR16M _ _ => exact nomatch h
  | unimplC5Mod3 _ _ => exact (by injection h with h; subst h; rfl)
  | movRm8Ib _ _ => exact nomatch h
  | unimplC6Sub1 _ _ => exact (by injection h with h; subst h; rfl)
  | unimplC6Sub2 _ _ => exact (by injection h with h; subst h; rfl)
  | unimplC6Sub3 _ _ => exact (by injection h with h; subst h; rfl)
  | unimplC6Sub4 _ _ => exact (by injection h with h; subst h; rfl)
  | unimplC6Sub5 _ _ => exact (by injection h with h; subst h; rfl)
  | unimplC6Sub6 _ _ => exact (by injection h with h; subst h; rfl)
  | unimplC6Sub7 _ _ => exact (by injection h with h; subst h; rfl)
  | movRm16Iw _ _ => exact nomatch h
  | unimplC7Sub1 _ _ => exact (by injection h with h; subst h; rfl)
  | unimplC7Sub2 _ _ => exact (by injection h with h; subst h; rfl)
  | unimplC7Sub3 _ _ => exact (by injection h with h; subst h; rfl)
  | unimplC7Sub4 _ _ => exact (by injection h with h; subst h; rfl)
  | unimplC7Sub5 _ _ => exact (by injection h with h; subst h; rfl)
  | unimplC7Sub6 _ _ => exact (by injection h with h; subst h; rfl)
  | unimplC7Sub7 _ _ => exact (by injection h with h; subst h; rfl)
  | unimplC8 => exact (by injection h with h; subst h; rfl)
  | unimplC9 => exact (by injection h with h; subst h; rfl)
  | retfIw _ => exact nomatch h
  | retf => exact nomatch h
  | int3 => exact nomatch h
  | intIb _ => exact nomatch h
  | unimplCE => exact (by injection h with h; subst h; rfl)
  | iret => exact nomatch h
  | rolRm8One _ => exact nomatch h
  | rorRm8One _ => exact nomatch h
  | rclRm8One _ => exact nomatch h
  | rcrRm8One _ => exact nomatch h
  | shlRm8One _ => exact nomatch h
  | shrRm8One _ => exact nomatch h
  | unimplD0Sub6 _ _ => exact (by injection h with h; subst h; rfl)
  | sarRm8One _ => exact nomatch h
  | rolRm16One _ => exact nomatch h
  | rorRm16One _ => exact nomatch h
  | rclRm16One _ => exact nomatch h
  | rcrRm16One _ => exact nomatch h
  | shlRm16One _ => exact nomatch h
  | shrRm16One _ => exact nomatch h
  | unimplD1Sub6 _ _ => exact (by injection h with h; subst h; rfl)
  | sarRm16One _ => exact nomatch h
  | rolRm8Cl _ => exact nomatch h
  | rorRm8Cl _ => exact nomatch h
  | rclRm8Cl _ => exact nomatch h
  | rcrRm8Cl _ => exact nomatch h
  | shlRm8Cl _ => exact nomatch h
  | shrRm8Cl _ => exact nomatch h
  | unimplD2Sub6 _ _ => exact (by injection h with h; subst h; rfl)
  | sarRm8Cl _ => exact nomatch h
  | rolRm16Cl _ => exact nomatch h
  | rorRm16Cl _ => exact nomatch h
  | rclRm16Cl _ => exact nomatch h
  | rcrRm16Cl _ => exact nomatch h
  | shlRm16Cl _ => exact nomatch h
  | shrRm16Cl _ => exact nomatch h
  | unimplD3Sub6 _ _ => exact (by injection h with h; subst h; rfl)
  | sarRm16Cl _ => exact nomatch h
  | unimplD4 => exact (by injection h with h; subst h; rfl)
  | unimplD5 => exact (by injection h with h; subst h; rfl)
  | unimplD6 => exact (by injection h with h; subst h; rfl)
  | unimplD7 => exact (by injection h with h; subst h; rfl)
  | unimplD8 => exact (by injection h with h; subst h; rfl)
  | unimplD9 => exact (by injection h with h; subst h; rfl)
  | unimplDA => exact (by injection h with h; subst h; rfl)
  | unimplDB => exact (by injection h with h; subst h; rfl)
  | unimplDC => exact (by injection h with h; subst h; rfl)
  | unimplDD => exact (by injection h with h; subst h; rfl)
  | unimplDE => exact (by injection h with h; subst h; rfl)
  | unimplDF => exact (by injection h with h; subst h; rfl)
  | loopne _ => exact nomatch h
  | loope _ => exact nomatch h
  | loop _ => exact nomatch h
  | jcxz _ => exact nomatch h
  | unimplE4 => exact (by injection h with h; subst h; rfl)
  | unimplE5 => exact (by injection h with h; subst h; rfl)
  | unimplE6 => exact (by injection h with h; subst h; rfl)
  | unimplE7 => exact (by injection h with h; subst h; rfl)
  | callRel16 _ => exact nomatch h
  | jmpRel16 _ => exact nomatch h
  | jmpPtr _ _ => exact nomatch h
  | jmpRel8 _ => exact nomatch h
  | unimplEC => exact (by injection h with h; subst h; rfl)
  | unimplED => exact (by injection h with h; subst h; rfl)
  | unimplEE => exact (by injection h with h; subst h; rfl)
  | unimplEF => exact (by injection h with h; subst h; rfl)
  | unimplF0 => exact (by injection h with h; subst h; rfl)
  | unimplF1 => exact (by injection h with h; subst h; rfl)
  | prefixRepnz => exact nomatch h
  | prefixRep => exact nomatch h
  | unimplF4 => exact (by injection h with h; subst h; rfl)
  | cmc => exact nomatch h
  | testRm8Ib _ _ => exact nomatch h
  | unimplF6Sub1 _ _ => exact (by injection h with h; subst h; rfl)
  | notRm8 _ => exact nomatch h
  | unimplF6Sub3 _ _ => exact (by injection h with h; subst h; rfl)
  | mulRm8 _ => exact nomatch h
  | unimplF6Sub5 _ _ => exact (by injection h with h; subst h; rfl)
  | divRm8 _ => exact nomatch h
  | unimplF6Sub7 _ _ => exact (by injection h with h; subst h; rfl)
  | testRm16Iw _ _ => exact nomatch h
  | unimplF7Sub1 _ _ => exact (by injection h with h; subst h; rfl)
  | notRm16 _ => exact nomatch h
  | unimplF7Sub3 _ _ => exact (by injection h with h; subst h; rfl)
  | mulRm16 _ => exact nomatch h
  | unimplF7Sub5 _ _ => exact (by injection h with h; subst h; rfl)
  | divRm16 _ => exact nomatch h
  | unimplF7Sub7 _ _ => exact (by injection h with h; subst h; rfl)
  | clc => exact nomatch h
  | stc => exact nomatch h
  | cli => exact nomatch h
  | sti => exact nomatch h
  | cld => exact nomatch h
  | std => exact nomatch h
  | incRm8 _ => exact nomatch h
  | decRm8 _ => exact nomatch h
  | unimplFESub2 _ _ => exact (by injection h with h; subst h; rfl)
  | unimplFESub3 _ _ => exact (by injection h with h; subst h; rfl)
  | unimplFESub4 _ _ => exact (by injection h with h; subst h; rfl)
  | unimplFESub5 _ _ => exact (by injection h with h; subst h; rfl)
  | unimplFESub6 _ _ => exact (by injection h with h; subst h; rfl)
  | unimplFESub7 _ _ => exact (by injection h with h; subst h; rfl)
  | incRm16 _ => exact nomatch h
  | decRm16 _ => exact nomatch h
  | callRm16 _ => exact nomatch h
  | callM16 _ => exact nomatch h
  | jmpRm16 _ => exact nomatch h
  | jmpM16 _ => exact nomatch h
  | pushRm16 _ => exact nomatch h
  | unimplFFSub7 _ _ => exact (by injection h with h; subst h; rfl)
  | unimplFFSub3Mod3 _ => exact (by injection h with h; subst h; rfl)
  | unimplFFSub5Mod3 _ => exact (by injection h with h; subst h; rfl)

end Sys2Proof.Machine
end

