-- ==== Sys2Proof/Laws/PerInstr.lean ====
section
/-! SUPPORT. What holds of every instruction as syntax, one lemma per constructor. -/

namespace Sys2Proof.Laws.EncodeLength

/-- An encoding has at least one byte and at most six (30_encoding.md R90, less the prefixes). -/
def Statement (i : Instr) : Prop := 1 ≤ (encode i).length ∧ (encode i).length ≤ maxInstrBytes

/-- A length that evaluates. -/
theorem closed {bs : List Byte} {k : Nat} (h : (Nat.ble 1 bs.length && Nat.ble bs.length k) = true) :
    1 ≤ bs.length ∧ bs.length ≤ k := by
  rw [Bool.and_eq_true] at h
  exact ⟨Nat.le_of_ble_eq_true h.1, Nat.le_of_ble_eq_true h.2⟩

/-- A memory operand takes one to three bytes. -/
theorem mem_length (m : MemOp) (reg : BitVec 3) : 1 ≤ (encMem m reg).length ∧ (encMem m reg).length ≤ 3 := by
  cases m with
  | direct a => exact closed rfl
  | based b d => cases d <;> exact closed rfl

/-- An `r/m8` takes one to three bytes. -/
theorem rm8_length (rm : Rm8) (reg : BitVec 3) : 1 ≤ (encRm8 rm reg).length ∧ (encRm8 rm reg).length ≤ 3 := by
  cases rm with
  | reg r => exact closed rfl
  | mem m => exact mem_length m reg

/-- An `r/m16` takes one to three bytes. -/
theorem rm16_length (rm : Rm16) (reg : BitVec 3) : 1 ≤ (encRm16 rm reg).length ∧ (encRm16 rm reg).length ≤ 3 := by
  cases rm with
  | reg r => exact closed rfl
  | mem m => exact mem_length m reg

/-- An opcode and up to three bytes more. -/
theorem of_tail {op : Byte} {bs : List Byte} (h : 1 ≤ bs.length ∧ bs.length ≤ 3) :
    1 ≤ (op :: bs).length ∧ (op :: bs).length ≤ maxInstrBytes := by
  simp only [List.length_cons, maxInstrBytes]; omega

/-- An opcode, up to three bytes, and a byte. -/
theorem of_tail_byte {op : Byte} {bs : List Byte} (b : Byte) (h : 1 ≤ bs.length ∧ bs.length ≤ 3) :
    1 ≤ (op :: (bs ++ [b])).length ∧ (op :: (bs ++ [b])).length ≤ maxInstrBytes := by
  simp only [List.length_cons, List.length_append, List.length_nil, maxInstrBytes]; omega

/-- An opcode, up to three bytes, and a word. -/
theorem of_tail_word {op : Byte} {bs : List Byte} (w : Word) (h : 1 ≤ bs.length ∧ bs.length ≤ 3) :
    1 ≤ (op :: (bs ++ encWord w)).length ∧ (op :: (bs ++ encWord w)).length ≤ maxInstrBytes := by
  simp only [List.length_cons, List.length_append, encWord, List.length_nil, maxInstrBytes]; omega

theorem addRm8R8 (rm : Rm8) (r : Reg8) : Statement (.addRm8R8 rm r) := of_tail (rm8_length rm _)
theorem addRm16R16 (rm : Rm16) (r : Reg16) : Statement (.addRm16R16 rm r) := of_tail (rm16_length rm _)
theorem addR8Rm8 (r : Reg8) (rm : Rm8) : Statement (.addR8Rm8 r rm) := of_tail (rm8_length rm _)
theorem addR16Rm16 (r : Reg16) (rm : Rm16) : Statement (.addR16Rm16 r rm) := of_tail (rm16_length rm _)
theorem addAlIb (ib : Byte) : Statement (.addAlIb ib) := closed rfl
theorem addAxIw (iw : Word) : Statement (.addAxIw iw) := closed rfl
theorem pushEs : Statement .pushEs := closed rfl
theorem popEs : Statement .popEs := closed rfl
theorem orRm8R8 (rm : Rm8) (r : Reg8) : Statement (.orRm8R8 rm r) := of_tail (rm8_length rm _)
theorem orRm16R16 (rm : Rm16) (r : Reg16) : Statement (.orRm16R16 rm r) := of_tail (rm16_length rm _)
theorem orR8Rm8 (r : Reg8) (rm : Rm8) : Statement (.orR8Rm8 r rm) := of_tail (rm8_length rm _)
theorem orR16Rm16 (r : Reg16) (rm : Rm16) : Statement (.orR16Rm16 r rm) := of_tail (rm16_length rm _)
theorem orAlIb (ib : Byte) : Statement (.orAlIb ib) := closed rfl
theorem orAxIw (iw : Word) : Statement (.orAxIw iw) := closed rfl
theorem pushCs : Statement .pushCs := closed rfl
theorem unimpl0F : Statement .unimpl0F := closed rfl
theorem adcRm8R8 (rm : Rm8) (r : Reg8) : Statement (.adcRm8R8 rm r) := of_tail (rm8_length rm _)
theorem adcRm16R16 (rm : Rm16) (r : Reg16) : Statement (.adcRm16R16 rm r) := of_tail (rm16_length rm _)
theorem adcR8Rm8 (r : Reg8) (rm : Rm8) : Statement (.adcR8Rm8 r rm) := of_tail (rm8_length rm _)
theorem adcR16Rm16 (r : Reg16) (rm : Rm16) : Statement (.adcR16Rm16 r rm) := of_tail (rm16_length rm _)
theorem adcAlIb (ib : Byte) : Statement (.adcAlIb ib) := closed rfl
theorem adcAxIw (iw : Word) : Statement (.adcAxIw iw) := closed rfl
theorem pushSs : Statement .pushSs := closed rfl
theorem popSs : Statement .popSs := closed rfl
theorem sbbRm8R8 (rm : Rm8) (r : Reg8) : Statement (.sbbRm8R8 rm r) := of_tail (rm8_length rm _)
theorem sbbRm16R16 (rm : Rm16) (r : Reg16) : Statement (.sbbRm16R16 rm r) := of_tail (rm16_length rm _)
theorem sbbR8Rm8 (r : Reg8) (rm : Rm8) : Statement (.sbbR8Rm8 r rm) := of_tail (rm8_length rm _)
theorem sbbR16Rm16 (r : Reg16) (rm : Rm16) : Statement (.sbbR16Rm16 r rm) := of_tail (rm16_length rm _)
theorem sbbAlIb (ib : Byte) : Statement (.sbbAlIb ib) := closed rfl
theorem sbbAxIw (iw : Word) : Statement (.sbbAxIw iw) := closed rfl
theorem pushDs : Statement .pushDs := closed rfl
theorem popDs : Statement .popDs := closed rfl
theorem andRm8R8 (rm : Rm8) (r : Reg8) : Statement (.andRm8R8 rm r) := of_tail (rm8_length rm _)
theorem andRm16R16 (rm : Rm16) (r : Reg16) : Statement (.andRm16R16 rm r) := of_tail (rm16_length rm _)
theorem andR8Rm8 (r : Reg8) (rm : Rm8) : Statement (.andR8Rm8 r rm) := of_tail (rm8_length rm _)
theorem andR16Rm16 (r : Reg16) (rm : Rm16) : Statement (.andR16Rm16 r rm) := of_tail (rm16_length rm _)
theorem andAlIb (ib : Byte) : Statement (.andAlIb ib) := closed rfl
theorem andAxIw (iw : Word) : Statement (.andAxIw iw) := closed rfl
theorem prefixEs : Statement .prefixEs := closed rfl
theorem unimpl27 : Statement .unimpl27 := closed rfl
theorem subRm8R8 (rm : Rm8) (r : Reg8) : Statement (.subRm8R8 rm r) := of_tail (rm8_length rm _)
theorem subRm16R16 (rm : Rm16) (r : Reg16) : Statement (.subRm16R16 rm r) := of_tail (rm16_length rm _)
theorem subR8Rm8 (r : Reg8) (rm : Rm8) : Statement (.subR8Rm8 r rm) := of_tail (rm8_length rm _)
theorem subR16Rm16 (r : Reg16) (rm : Rm16) : Statement (.subR16Rm16 r rm) := of_tail (rm16_length rm _)
theorem subAlIb (ib : Byte) : Statement (.subAlIb ib) := closed rfl
theorem subAxIw (iw : Word) : Statement (.subAxIw iw) := closed rfl
theorem prefixCs : Statement .prefixCs := closed rfl
theorem unimpl2F : Statement .unimpl2F := closed rfl
theorem xorRm8R8 (rm : Rm8) (r : Reg8) : Statement (.xorRm8R8 rm r) := of_tail (rm8_length rm _)
theorem xorRm16R16 (rm : Rm16) (r : Reg16) : Statement (.xorRm16R16 rm r) := of_tail (rm16_length rm _)
theorem xorR8Rm8 (r : Reg8) (rm : Rm8) : Statement (.xorR8Rm8 r rm) := of_tail (rm8_length rm _)
theorem xorR16Rm16 (r : Reg16) (rm : Rm16) : Statement (.xorR16Rm16 r rm) := of_tail (rm16_length rm _)
theorem xorAlIb (ib : Byte) : Statement (.xorAlIb ib) := closed rfl
theorem xorAxIw (iw : Word) : Statement (.xorAxIw iw) := closed rfl
theorem prefixSs : Statement .prefixSs := closed rfl
theorem unimpl37 : Statement .unimpl37 := closed rfl
theorem cmpRm8R8 (rm : Rm8) (r : Reg8) : Statement (.cmpRm8R8 rm r) := of_tail (rm8_length rm _)
theorem cmpRm16R16 (rm : Rm16) (r : Reg16) : Statement (.cmpRm16R16 rm r) := of_tail (rm16_length rm _)
theorem cmpR8Rm8 (r : Reg8) (rm : Rm8) : Statement (.cmpR8Rm8 r rm) := of_tail (rm8_length rm _)
theorem cmpR16Rm16 (r : Reg16) (rm : Rm16) : Statement (.cmpR16Rm16 r rm) := of_tail (rm16_length rm _)
theorem cmpAlIb (ib : Byte) : Statement (.cmpAlIb ib) := closed rfl
theorem cmpAxIw (iw : Word) : Statement (.cmpAxIw iw) := closed rfl
theorem prefixDs : Statement .prefixDs := closed rfl
theorem unimpl3F : Statement .unimpl3F := closed rfl
theorem incR16 (r : Reg16) : Statement (.incR16 r) := closed rfl
theorem decR16 (r : Reg16) : Statement (.decR16 r) := closed rfl
theorem pushR16 (r : Reg16) : Statement (.pushR16 r) := closed rfl
theorem popR16 (r : Reg16) : Statement (.popR16 r) := closed rfl
theorem unimpl60 : Statement .unimpl60 := closed rfl
theorem unimpl61 : Statement .unimpl61 := closed rfl
theorem unimpl62 : Statement .unimpl62 := closed rfl
theorem unimpl63 : Statement .unimpl63 := closed rfl
theorem unimpl64 : Statement .unimpl64 := closed rfl
theorem unimpl65 : Statement .unimpl65 := closed rfl
theorem unimpl66 : Statement .unimpl66 := closed rfl
theorem unimpl67 : Statement .unimpl67 := closed rfl
theorem unimpl68 : Statement .unimpl68 := closed rfl
theorem unimpl69 : Statement .unimpl69 := closed rfl
theorem unimpl6A : Statement .unimpl6A := closed rfl
theorem unimpl6B : Statement .unimpl6B := closed rfl
theorem unimpl6C : Statement .unimpl6C := closed rfl
theorem unimpl6D : Statement .unimpl6D := closed rfl
theorem unimpl6E : Statement .unimpl6E := closed rfl
theorem unimpl6F : Statement .unimpl6F := closed rfl
theorem jo (rel : Byte) : Statement (.jo rel) := closed rfl
theorem jno (rel : Byte) : Statement (.jno rel) := closed rfl
theorem jb (rel : Byte) : Statement (.jb rel) := closed rfl
theorem jnb (rel : Byte) : Statement (.jnb rel) := closed rfl
theorem jz (rel : Byte) : Statement (.jz rel) := closed rfl
theorem jnz (rel : Byte) : Statement (.jnz rel) := closed rfl
theorem jbe (rel : Byte) : Statement (.jbe rel) := closed rfl
theorem ja (rel : Byte) : Statement (.ja rel) := closed rfl
theorem js (rel : Byte) : Statement (.js rel) := closed rfl
theorem jns (rel : Byte) : Statement (.jns rel) := closed rfl
theorem jpe (rel : Byte) : Statement (.jpe rel) := closed rfl
theorem jpo (rel : Byte) : Statement (.jpo rel) := closed rfl
theorem jl (rel : Byte) : Statement (.jl rel) := closed rfl
theorem jge (rel : Byte) : Statement (.jge rel) := closed rfl
theorem jle (rel : Byte) : Statement (.jle rel) := closed rfl
theorem jg (rel : Byte) : Statement (.jg rel) := closed rfl
theorem addRm8Ib (rm : Rm8) (ib : Byte) : Statement (.addRm8Ib rm ib) := of_tail_byte ib (rm8_length rm _)
theorem orRm8Ib (rm : Rm8) (ib : Byte) : Statement (.orRm8Ib rm ib) := of_tail_byte ib (rm8_length rm _)
theorem adcRm8Ib (rm : Rm8) (ib : Byte) : Statement (.adcRm8Ib rm ib) := of_tail_byte ib (rm8_length rm _)
theorem sbbRm8Ib (rm : Rm8) (ib : Byte) : Statement (.sbbRm8Ib rm ib) := of_tail_byte ib (rm8_length rm _)
theorem andRm8Ib (rm : Rm8) (ib : Byte) : Statement (.andRm8Ib rm ib) := of_tail_byte ib (rm8_length rm _)
theorem subRm8Ib (rm : Rm8) (ib : Byte) : Statement (.subRm8Ib rm ib) := of_tail_byte ib (rm8_length rm _)
theorem xorRm8Ib (rm : Rm8) (ib : Byte) : Statement (.xorRm8Ib rm ib) := of_tail_byte ib (rm8_length rm _)
theorem cmpRm8Ib (rm : Rm8) (ib : Byte) : Statement (.cmpRm8Ib rm ib) := of_tail_byte ib (rm8_length rm _)
theorem addRm16Iw (rm : Rm16) (iw : Word) : Statement (.addRm16Iw rm iw) := of_tail_word iw (rm16_length rm _)
theorem orRm16Iw (rm : Rm16) (iw : Word) : Statement (.orRm16Iw rm iw) := of_tail_word iw (rm16_length rm _)
theorem adcRm16Iw (rm : Rm16) (iw : Word) : Statement (.adcRm16Iw rm iw) := of_tail_word iw (rm16_length rm _)
theorem sbbRm16Iw (rm : Rm16) (iw : Word) : Statement (.sbbRm16Iw rm iw) := of_tail_word iw (rm16_length rm _)
theorem andRm16Iw (rm : Rm16) (iw : Word) : Statement (.andRm16Iw rm iw) := of_tail_word iw (rm16_length rm _)
theorem subRm16Iw (rm : Rm16) (iw : Word) : Statement (.subRm16Iw rm iw) := of_tail_word iw (rm16_length rm _)
theorem xorRm16Iw (rm : Rm16) (iw : Word) : Statement (.xorRm16Iw rm iw) := of_tail_word iw (rm16_length rm _)
theorem cmpRm16Iw (rm : Rm16) (iw : Word) : Statement (.cmpRm16Iw rm iw) := of_tail_word iw (rm16_length rm _)
theorem addRm8Ib82 (rm : Rm8) (ib : Byte) : Statement (.addRm8Ib82 rm ib) := of_tail_byte ib (rm8_length rm _)
theorem orRm8Ib82 (rm : Rm8) (ib : Byte) : Statement (.orRm8Ib82 rm ib) := of_tail_byte ib (rm8_length rm _)
theorem adcRm8Ib82 (rm : Rm8) (ib : Byte) : Statement (.adcRm8Ib82 rm ib) := of_tail_byte ib (rm8_length rm _)
theorem sbbRm8Ib82 (rm : Rm8) (ib : Byte) : Statement (.sbbRm8Ib82 rm ib) := of_tail_byte ib (rm8_length rm _)
theorem andRm8Ib82 (rm : Rm8) (ib : Byte) : Statement (.andRm8Ib82 rm ib) := of_tail_byte ib (rm8_length rm _)
theorem subRm8Ib82 (rm : Rm8) (ib : Byte) : Statement (.subRm8Ib82 rm ib) := of_tail_byte ib (rm8_length rm _)
theorem xorRm8Ib82 (rm : Rm8) (ib : Byte) : Statement (.xorRm8Ib82 rm ib) := of_tail_byte ib (rm8_length rm _)
theorem cmpRm8Ib82 (rm : Rm8) (ib : Byte) : Statement (.cmpRm8Ib82 rm ib) := of_tail_byte ib (rm8_length rm _)
theorem addRm16Sext (rm : Rm16) (ib : Byte) : Statement (.addRm16Sext rm ib) := of_tail_byte ib (rm16_length rm _)
theorem orRm16Sext (rm : Rm16) (ib : Byte) : Statement (.orRm16Sext rm ib) := of_tail_byte ib (rm16_length rm _)
theorem adcRm16Sext (rm : Rm16) (ib : Byte) : Statement (.adcRm16Sext rm ib) := of_tail_byte ib (rm16_length rm _)
theorem sbbRm16Sext (rm : Rm16) (ib : Byte) : Statement (.sbbRm16Sext rm ib) := of_tail_byte ib (rm16_length rm _)
theorem andRm16Sext (rm : Rm16) (ib : Byte) : Statement (.andRm16Sext rm ib) := of_tail_byte ib (rm16_length rm _)
theorem subRm16Sext (rm : Rm16) (ib : Byte) : Statement (.subRm16Sext rm ib) := of_tail_byte ib (rm16_length rm _)
theorem xorRm16Sext (rm : Rm16) (ib : Byte) : Statement (.xorRm16Sext rm ib) := of_tail_byte ib (rm16_length rm _)
theorem cmpRm16Sext (rm : Rm16) (ib : Byte) : Statement (.cmpRm16Sext rm ib) := of_tail_byte ib (rm16_length rm _)
theorem testRm8R8 (rm : Rm8) (r : Reg8) : Statement (.testRm8R8 rm r) := of_tail (rm8_length rm _)
theorem testRm16R16 (rm : Rm16) (r : Reg16) : Statement (.testRm16R16 rm r) := of_tail (rm16_length rm _)
theorem xchgRm8R8 (rm : Rm8) (r : Reg8) : Statement (.xchgRm8R8 rm r) := of_tail (rm8_length rm _)
theorem xchgRm16R16 (rm : Rm16) (r : Reg16) : Statement (.xchgRm16R16 rm r) := of_tail (rm16_length rm _)
theorem movRm8R8 (rm : Rm8) (r : Reg8) : Statement (.movRm8R8 rm r) := of_tail (rm8_length rm _)
theorem movRm16R16 (rm : Rm16) (r : Reg16) : Statement (.movRm16R16 rm r) := of_tail (rm16_length rm _)
theorem movR8Rm8 (r : Reg8) (rm : Rm8) : Statement (.movR8Rm8 r rm) := of_tail (rm8_length rm _)
theorem movR16Rm16 (r : Reg16) (rm : Rm16) : Statement (.movR16Rm16 r rm) := of_tail (rm16_length rm _)
theorem movRm16Sreg (rm : Rm16) (sr : SReg) : Statement (.movRm16Sreg rm sr) := of_tail (rm16_length rm _)
theorem unimpl8CReg4to7 (mod : BitVec 2) (reg : BitVec 2) (rm : BitVec 3) : Statement (.unimpl8CReg4to7 mod reg rm) := closed rfl
theorem leaR16M (r : Reg16) (m : MemOp) : Statement (.leaR16M r m) := of_tail (mem_length m _)
theorem unimpl8DMod3 (reg : BitVec 3) (rm : BitVec 3) : Statement (.unimpl8DMod3 reg rm) := closed rfl
theorem movSregRm16 (sr : SReg) (rm : Rm16) : Statement (.movSregRm16 sr rm) := of_tail (rm16_length rm _)
theorem unimpl8EReg4to7 (mod : BitVec 2) (reg : BitVec 2) (rm : BitVec 3) : Statement (.unimpl8EReg4to7 mod reg rm) := closed rfl
theorem popRm16 (rm : Rm16) : Statement (.popRm16 rm) := of_tail (rm16_length rm _)
theorem unimpl8FSub1 (mod : BitVec 2) (rm : BitVec 3) : Statement (.unimpl8FSub1 mod rm) := closed rfl
theorem unimpl8FSub2 (mod : BitVec 2) (rm : BitVec 3) : Statement (.unimpl8FSub2 mod rm) := closed rfl
theorem unimpl8FSub3 (mod : BitVec 2) (rm : BitVec 3) : Statement (.unimpl8FSub3 mod rm) := closed rfl
theorem unimpl8FSub4 (mod : BitVec 2) (rm : BitVec 3) : Statement (.unimpl8FSub4 mod rm) := closed rfl
theorem unimpl8FSub5 (mod : BitVec 2) (rm : BitVec 3) : Statement (.unimpl8FSub5 mod rm) := closed rfl
theorem unimpl8FSub6 (mod : BitVec 2) (rm : BitVec 3) : Statement (.unimpl8FSub6 mod rm) := closed rfl
theorem unimpl8FSub7 (mod : BitVec 2) (rm : BitVec 3) : Statement (.unimpl8FSub7 mod rm) := closed rfl
theorem xchgAxR16 (r : Reg16) : Statement (.xchgAxR16 r) := closed rfl
theorem unimpl98 : Statement .unimpl98 := closed rfl
theorem unimpl99 : Statement .unimpl99 := closed rfl
theorem callPtr (off : Word) (seg : Word) : Statement (.callPtr off seg) := closed rfl
theorem unimpl9B : Statement .unimpl9B := closed rfl
theorem pushf : Statement .pushf := closed rfl
theorem popf : Statement .popf := closed rfl
theorem unimpl9E : Statement .unimpl9E := closed rfl
theorem unimpl9F : Statement .unimpl9F := closed rfl
theorem movAlMoffs (moffs : Word) : Statement (.movAlMoffs moffs) := closed rfl
theorem movAxMoffs (moffs : Word) : Statement (.movAxMoffs moffs) := closed rfl
theorem movMoffsAl (moffs : Word) : Statement (.movMoffsAl moffs) := closed rfl
theorem movMoffsAx (moffs : Word) : Statement (.movMoffsAx moffs) := closed rfl
theorem movsb : Statement .movsb := closed rfl
theorem movsw : Statement .movsw := closed rfl
theorem cmpsb : Statement .cmpsb := closed rfl
theorem cmpsw : Statement .cmpsw := closed rfl
theorem testAlIb (ib : Byte) : Statement (.testAlIb ib) := closed rfl
theorem testAxIw (iw : Word) : Statement (.testAxIw iw) := closed rfl
theorem stosb : Statement .stosb := closed rfl
theorem stosw : Statement .stosw := closed rfl
theorem lodsb : Statement .lodsb := closed rfl
theorem lodsw : Statement .lodsw := closed rfl
theorem scasb : Statement .scasb := closed rfl
theorem scasw : Statement .scasw := closed rfl
theorem movR8Ib (r : Reg8) (ib : Byte) : Statement (.movR8Ib r ib) := closed rfl
theorem movR16Iw (r : Reg16) (iw : Word) : Statement (.movR16Iw r iw) := closed rfl
theorem unimplC0 : Statement .unimplC0 := closed rfl
theorem unimplC1 : Statement .unimplC1 := closed rfl
theorem retIw (iw : Word) : Statement (.retIw iw) := closed rfl
theorem ret : Statement .ret := closed rfl
theorem lesR16M (r : Reg16) (m : MemOp) : Statement (.lesR16M r m) := of_tail (mem_length m _)
theorem unimplC4Mod3 (reg : BitVec 3) (rm : BitVec 3) : Statement (.unimplC4Mod3 reg rm) := closed rfl
theorem ldsR16M (r : Reg16) (m : MemOp) : Statement (.ldsR16M r m) := of_tail (mem_length m _)
theorem unimplC5Mod3 (reg : BitVec 3) (rm : BitVec 3) : Statement (.unimplC5Mod3 reg rm) := closed rfl
theorem movRm8Ib (rm : Rm8) (ib : Byte) : Statement (.movRm8Ib rm ib) := of_tail_byte ib (rm8_length rm _)
theorem unimplC6Sub1 (mod : BitVec 2) (rm : BitVec 3) : Statement (.unimplC6Sub1 mod rm) := closed rfl
theorem unimplC6Sub2 (mod : BitVec 2) (rm : BitVec 3) : Statement (.unimplC6Sub2 mod rm) := closed rfl
theorem unimplC6Sub3 (mod : BitVec 2) (rm : BitVec 3) : Statement (.unimplC6Sub3 mod rm) := closed rfl
theorem unimplC6Sub4 (mod : BitVec 2) (rm : BitVec 3) : Statement (.unimplC6Sub4 mod rm) := closed rfl
theorem unimplC6Sub5 (mod : BitVec 2) (rm : BitVec 3) : Statement (.unimplC6Sub5 mod rm) := closed rfl
theorem unimplC6Sub6 (mod : BitVec 2) (rm : BitVec 3) : Statement (.unimplC6Sub6 mod rm) := closed rfl
theorem unimplC6Sub7 (mod : BitVec 2) (rm : BitVec 3) : Statement (.unimplC6Sub7 mod rm) := closed rfl
theorem movRm16Iw (rm : Rm16) (iw : Word) : Statement (.movRm16Iw rm iw) := of_tail_word iw (rm16_length rm _)
theorem unimplC7Sub1 (mod : BitVec 2) (rm : BitVec 3) : Statement (.unimplC7Sub1 mod rm) := closed rfl
theorem unimplC7Sub2 (mod : BitVec 2) (rm : BitVec 3) : Statement (.unimplC7Sub2 mod rm) := closed rfl
theorem unimplC7Sub3 (mod : BitVec 2) (rm : BitVec 3) : Statement (.unimplC7Sub3 mod rm) := closed rfl
theorem unimplC7Sub4 (mod : BitVec 2) (rm : BitVec 3) : Statement (.unimplC7Sub4 mod rm) := closed rfl
theorem unimplC7Sub5 (mod : BitVec 2) (rm : BitVec 3) : Statement (.unimplC7Sub5 mod rm) := closed rfl
theorem unimplC7Sub6 (mod : BitVec 2) (rm : BitVec 3) : Statement (.unimplC7Sub6 mod rm) := closed rfl
theorem unimplC7Sub7 (mod : BitVec 2) (rm : BitVec 3) : Statement (.unimplC7Sub7 mod rm) := closed rfl
theorem unimplC8 : Statement .unimplC8 := closed rfl
theorem unimplC9 : Statement .unimplC9 := closed rfl
theorem retfIw (iw : Word) : Statement (.retfIw iw) := closed rfl
theorem retf : Statement .retf := closed rfl
theorem int3 : Statement .int3 := closed rfl
theorem intIb (ib : Byte) : Statement (.intIb ib) := closed rfl
theorem unimplCE : Statement .unimplCE := closed rfl
theorem iret : Statement .iret := closed rfl
theorem rolRm8One (rm : Rm8) : Statement (.rolRm8One rm) := of_tail (rm8_length rm _)
theorem rorRm8One (rm : Rm8) : Statement (.rorRm8One rm) := of_tail (rm8_length rm _)
theorem rclRm8One (rm : Rm8) : Statement (.rclRm8One rm) := of_tail (rm8_length rm _)
theorem rcrRm8One (rm : Rm8) : Statement (.rcrRm8One rm) := of_tail (rm8_length rm _)
theorem shlRm8One (rm : Rm8) : Statement (.shlRm8One rm) := of_tail (rm8_length rm _)
theorem shrRm8One (rm : Rm8) : Statement (.shrRm8One rm) := of_tail (rm8_length rm _)
theorem unimplD0Sub6 (mod : BitVec 2) (rm : BitVec 3) : Statement (.unimplD0Sub6 mod rm) := closed rfl
theorem sarRm8One (rm : Rm8) : Statement (.sarRm8One rm) := of_tail (rm8_length rm _)
theorem rolRm16One (rm : Rm16) : Statement (.rolRm16One rm) := of_tail (rm16_length rm _)
theorem rorRm16One (rm : Rm16) : Statement (.rorRm16One rm) := of_tail (rm16_length rm _)
theorem rclRm16One (rm : Rm16) : Statement (.rclRm16One rm) := of_tail (rm16_length rm _)
theorem rcrRm16One (rm : Rm16) : Statement (.rcrRm16One rm) := of_tail (rm16_length rm _)
theorem shlRm16One (rm : Rm16) : Statement (.shlRm16One rm) := of_tail (rm16_length rm _)
theorem shrRm16One (rm : Rm16) : Statement (.shrRm16One rm) := of_tail (rm16_length rm _)
theorem unimplD1Sub6 (mod : BitVec 2) (rm : BitVec 3) : Statement (.unimplD1Sub6 mod rm) := closed rfl
theorem sarRm16One (rm : Rm16) : Statement (.sarRm16One rm) := of_tail (rm16_length rm _)
theorem rolRm8Cl (rm : Rm8) : Statement (.rolRm8Cl rm) := of_tail (rm8_length rm _)
theorem rorRm8Cl (rm : Rm8) : Statement (.rorRm8Cl rm) := of_tail (rm8_length rm _)
theorem rclRm8Cl (rm : Rm8) : Statement (.rclRm8Cl rm) := of_tail (rm8_length rm _)
theorem rcrRm8Cl (rm : Rm8) : Statement (.rcrRm8Cl rm) := of_tail (rm8_length rm _)
theorem shlRm8Cl (rm : Rm8) : Statement (.shlRm8Cl rm) := of_tail (rm8_length rm _)
theorem shrRm8Cl (rm : Rm8) : Statement (.shrRm8Cl rm) := of_tail (rm8_length rm _)
theorem unimplD2Sub6 (mod : BitVec 2) (rm : BitVec 3) : Statement (.unimplD2Sub6 mod rm) := closed rfl
theorem sarRm8Cl (rm : Rm8) : Statement (.sarRm8Cl rm) := of_tail (rm8_length rm _)
theorem rolRm16Cl (rm : Rm16) : Statement (.rolRm16Cl rm) := of_tail (rm16_length rm _)
theorem rorRm16Cl (rm : Rm16) : Statement (.rorRm16Cl rm) := of_tail (rm16_length rm _)
theorem rclRm16Cl (rm : Rm16) : Statement (.rclRm16Cl rm) := of_tail (rm16_length rm _)
theorem rcrRm16Cl (rm : Rm16) : Statement (.rcrRm16Cl rm) := of_tail (rm16_length rm _)
theorem shlRm16Cl (rm : Rm16) : Statement (.shlRm16Cl rm) := of_tail (rm16_length rm _)
theorem shrRm16Cl (rm : Rm16) : Statement (.shrRm16Cl rm) := of_tail (rm16_length rm _)
theorem unimplD3Sub6 (mod : BitVec 2) (rm : BitVec 3) : Statement (.unimplD3Sub6 mod rm) := closed rfl
theorem sarRm16Cl (rm : Rm16) : Statement (.sarRm16Cl rm) := of_tail (rm16_length rm _)
theorem unimplD4 : Statement .unimplD4 := closed rfl
theorem unimplD5 : Statement .unimplD5 := closed rfl
theorem unimplD6 : Statement .unimplD6 := closed rfl
theorem unimplD7 : Statement .unimplD7 := closed rfl
theorem unimplD8 : Statement .unimplD8 := closed rfl
theorem unimplD9 : Statement .unimplD9 := closed rfl
theorem unimplDA : Statement .unimplDA := closed rfl
theorem unimplDB : Statement .unimplDB := closed rfl
theorem unimplDC : Statement .unimplDC := closed rfl
theorem unimplDD : Statement .unimplDD := closed rfl
theorem unimplDE : Statement .unimplDE := closed rfl
theorem unimplDF : Statement .unimplDF := closed rfl
theorem loopne (rel : Byte) : Statement (.loopne rel) := closed rfl
theorem loope (rel : Byte) : Statement (.loope rel) := closed rfl
theorem loop (rel : Byte) : Statement (.loop rel) := closed rfl
theorem jcxz (rel : Byte) : Statement (.jcxz rel) := closed rfl
theorem unimplE4 : Statement .unimplE4 := closed rfl
theorem unimplE5 : Statement .unimplE5 := closed rfl
theorem unimplE6 : Statement .unimplE6 := closed rfl
theorem unimplE7 : Statement .unimplE7 := closed rfl
theorem callRel16 (rel : Word) : Statement (.callRel16 rel) := closed rfl
theorem jmpRel16 (rel : Word) : Statement (.jmpRel16 rel) := closed rfl
theorem jmpPtr (off : Word) (seg : Word) : Statement (.jmpPtr off seg) := closed rfl
theorem jmpRel8 (rel : Byte) : Statement (.jmpRel8 rel) := closed rfl
theorem unimplEC : Statement .unimplEC := closed rfl
theorem unimplED : Statement .unimplED := closed rfl
theorem unimplEE : Statement .unimplEE := closed rfl
theorem unimplEF : Statement .unimplEF := closed rfl
theorem unimplF0 : Statement .unimplF0 := closed rfl
theorem unimplF1 : Statement .unimplF1 := closed rfl
theorem prefixRepnz : Statement .prefixRepnz := closed rfl
theorem prefixRep : Statement .prefixRep := closed rfl
theorem unimplF4 : Statement .unimplF4 := closed rfl
theorem cmc : Statement .cmc := closed rfl
theorem testRm8Ib (rm : Rm8) (ib : Byte) : Statement (.testRm8Ib rm ib) := of_tail_byte ib (rm8_length rm _)
theorem unimplF6Sub1 (mod : BitVec 2) (rm : BitVec 3) : Statement (.unimplF6Sub1 mod rm) := closed rfl
theorem notRm8 (rm : Rm8) : Statement (.notRm8 rm) := of_tail (rm8_length rm _)
theorem unimplF6Sub3 (mod : BitVec 2) (rm : BitVec 3) : Statement (.unimplF6Sub3 mod rm) := closed rfl
theorem mulRm8 (rm : Rm8) : Statement (.mulRm8 rm) := of_tail (rm8_length rm _)
theorem unimplF6Sub5 (mod : BitVec 2) (rm : BitVec 3) : Statement (.unimplF6Sub5 mod rm) := closed rfl
theorem divRm8 (rm : Rm8) : Statement (.divRm8 rm) := of_tail (rm8_length rm _)
theorem unimplF6Sub7 (mod : BitVec 2) (rm : BitVec 3) : Statement (.unimplF6Sub7 mod rm) := closed rfl
theorem testRm16Iw (rm : Rm16) (iw : Word) : Statement (.testRm16Iw rm iw) := of_tail_word iw (rm16_length rm _)
theorem unimplF7Sub1 (mod : BitVec 2) (rm : BitVec 3) : Statement (.unimplF7Sub1 mod rm) := closed rfl
theorem notRm16 (rm : Rm16) : Statement (.notRm16 rm) := of_tail (rm16_length rm _)
theorem unimplF7Sub3 (mod : BitVec 2) (rm : BitVec 3) : Statement (.unimplF7Sub3 mod rm) := closed rfl
theorem mulRm16 (rm : Rm16) : Statement (.mulRm16 rm) := of_tail (rm16_length rm _)
theorem unimplF7Sub5 (mod : BitVec 2) (rm : BitVec 3) : Statement (.unimplF7Sub5 mod rm) := closed rfl
theorem divRm16 (rm : Rm16) : Statement (.divRm16 rm) := of_tail (rm16_length rm _)
theorem unimplF7Sub7 (mod : BitVec 2) (rm : BitVec 3) : Statement (.unimplF7Sub7 mod rm) := closed rfl
theorem clc : Statement .clc := closed rfl
theorem stc : Statement .stc := closed rfl
theorem cli : Statement .cli := closed rfl
theorem sti : Statement .sti := closed rfl
theorem cld : Statement .cld := closed rfl
theorem std : Statement .std := closed rfl
theorem incRm8 (rm : Rm8) : Statement (.incRm8 rm) := of_tail (rm8_length rm _)
theorem decRm8 (rm : Rm8) : Statement (.decRm8 rm) := of_tail (rm8_length rm _)
theorem unimplFESub2 (mod : BitVec 2) (rm : BitVec 3) : Statement (.unimplFESub2 mod rm) := closed rfl
theorem unimplFESub3 (mod : BitVec 2) (rm : BitVec 3) : Statement (.unimplFESub3 mod rm) := closed rfl
theorem unimplFESub4 (mod : BitVec 2) (rm : BitVec 3) : Statement (.unimplFESub4 mod rm) := closed rfl
theorem unimplFESub5 (mod : BitVec 2) (rm : BitVec 3) : Statement (.unimplFESub5 mod rm) := closed rfl
theorem unimplFESub6 (mod : BitVec 2) (rm : BitVec 3) : Statement (.unimplFESub6 mod rm) := closed rfl
theorem unimplFESub7 (mod : BitVec 2) (rm : BitVec 3) : Statement (.unimplFESub7 mod rm) := closed rfl
theorem incRm16 (rm : Rm16) : Statement (.incRm16 rm) := of_tail (rm16_length rm _)
theorem decRm16 (rm : Rm16) : Statement (.decRm16 rm) := of_tail (rm16_length rm _)
theorem callRm16 (rm : Rm16) : Statement (.callRm16 rm) := of_tail (rm16_length rm _)
theorem callM16 (m : MemOp) : Statement (.callM16 m) := of_tail (mem_length m _)
theorem jmpRm16 (rm : Rm16) : Statement (.jmpRm16 rm) := of_tail (rm16_length rm _)
theorem jmpM16 (m : MemOp) : Statement (.jmpM16 m) := of_tail (mem_length m _)
theorem pushRm16 (rm : Rm16) : Statement (.pushRm16 rm) := of_tail (rm16_length rm _)
theorem unimplFFSub7 (mod : BitVec 2) (rm : BitVec 3) : Statement (.unimplFFSub7 mod rm) := closed rfl
theorem unimplFFSub3Mod3 (rm : BitVec 3) : Statement (.unimplFFSub3Mod3 rm) := closed rfl
theorem unimplFFSub5Mod3 (rm : BitVec 3) : Statement (.unimplFFSub5Mod3 rm) := closed rfl

end Sys2Proof.Laws.EncodeLength
end

