-- ==== Sys2Proof/Laws/Fetch.lean ====
section
/-! SUPPORT. Fetching: the bytes of an instruction at CS:IP are fetched as that instruction. -/

namespace Sys2Proof.Machine

/-- A prefix byte decodes to its prefix and leaves the rest. -/
theorem decode_prefix (p : Instr) (rest : List Byte) (h : p.isPrefix = true) :
    (encode p).length = 1 ∧ decode (encode p ++ rest) = .ok p rest := by
  unfold Instr.isPrefix at h
  split at h <;> first | exact ⟨rfl, rfl⟩ | exact absurd h (by decide)

/-- A fetched byte looks at memory and CS:IP only. -/
theorem State.fetch8_eq (s : State) (k : Nat) : s.fetch8 k = s.mem.read8 s.regs.CS (s.regs.IP + BitVec.ofNat 16 k) := rfl

/-- Six bytes are looked at. -/
@[simp] theorem State.length_window (s : State) (k : Nat) : (s.window k).length = maxInstrBytes := by simp [State.window]

/-- The window shows the bytes that lie there. -/
theorem State.window_eq (s : State) (k : Nat) (bs : List Byte) (hl : bs.length ≤ maxInstrBytes)
    (h : ∀ j : Nat, j < bs.length → s.fetch8 (k + j) = bs.getD j 0) : s.window k = bs ++ (s.window k).drop bs.length := by
  conv_lhs => rw [← List.take_append_drop bs.length (s.window k)]
  congr 1
  apply List.ext_getElem
  · simp [hl]
  · intro j h1 h2
    simp only [List.getElem_take, State.window, List.getElem_map, List.getElem_range]
    rw [h j h2, List.getD_eq_getElem _ _ h2]

/-- The instruction proper. -/
theorem State.fetchFrom_instr (s : State) (fuel k : Nat) (i : Instr) (hp : i.isPrefix = false)
    (hd : ∀ rest, decode (encode i ++ rest) = .ok i rest) (hl : (encode i).length ≤ maxInstrBytes)
    (h : ∀ j : Nat, j < (encode i).length → s.fetch8 (k + j) = (encode i).getD j 0) :
    s.fetchFrom (fuel + 1) k = some { prefixes := [], instr := i, bytes := encode i } := by
  have hw := s.window_eq k (encode i) hl h
  have hd' : decode (s.window k) = .ok i ((s.window k).drop (encode i).length) := by rw [hw]; simpa using hd _
  simp only [State.fetchFrom, hd', hp, Bool.false_eq_true, if_false, List.length_drop, State.length_window]
  rw [show maxInstrBytes - (maxInstrBytes - (encode i).length) = (encode i).length by omega]
  congr 2
  conv_lhs => rw [hw]
  simp

/-- Prefixes, then the instruction proper: all are fetched, in order, with all their bytes (30_encoding.md R93). -/
theorem State.fetchFrom_spec (s : State) (ps : List Instr) (i : Instr) (fuel k : Nat) (hps : ∀ p ∈ ps, p.isPrefix = true)
    (hp : i.isPrefix = false) (hd : ∀ rest, decode (encode i ++ rest) = .ok i rest) (hl : (encode i).length ≤ maxInstrBytes)
    (hf : ps.length < fuel)
    (h : ∀ j : Nat, j < (ps.flatMap encode ++ encode i).length → s.fetch8 (k + j) = (ps.flatMap encode ++ encode i).getD j 0) :
    s.fetchFrom fuel k = some { prefixes := ps, instr := i, bytes := ps.flatMap encode ++ encode i } := by
  induction ps generalizing fuel k with
  | nil =>
    obtain ⟨n, rfl⟩ : ∃ n, fuel = n + 1 := ⟨fuel - 1, by simp at hf; omega⟩
    exact s.fetchFrom_instr n k i hp hd hl h
  | cons p ps ih =>
    obtain ⟨n, rfl⟩ : ∃ n, fuel = n + 1 := ⟨fuel - 1, by simp at hf; omega⟩
    have hpp := hps p (by simp)
    obtain ⟨b, hb⟩ : ∃ b, encode p = [b] := List.length_eq_one_iff.mp (decode_prefix p [] hpp).1
    simp only [List.flatMap_cons, hb, List.cons_append, List.nil_append] at h ⊢
    have h0 : s.fetch8 k = b := by simpa using h 0 (by simp)
    have hw := s.window_eq k (encode p) (by rw [hb]; exact Nat.le_of_ble_eq_true rfl) (by
      rw [hb]; intro j hj
      obtain rfl : j = 0 := by simpa using hj
      simpa using h0)
    have hd' : decode (s.window k) = .ok p ((s.window k).drop (encode p).length) := by
      rw [hw]; simpa using (decode_prefix p _ hpp).2
    have := ih n (k + 1) (fun q hq => hps q (by simp [hq])) (by simpa using hf) (fun j hj => by
      have := h (j + 1) (by simpa using hj)
      rw [show k + (j + 1) = k + 1 + j by omega] at this
      simpa using this)
    simp only [State.fetchFrom, hd', hpp, if_true, this, Option.map_some, h0]

/-- What is fetched is prefixes and one instruction that is none. -/
theorem State.fetchFrom_prefixes (s : State) (n k : Nat) (f : Fetched) (h : s.fetchFrom n k = some f) :
    (∀ p ∈ f.prefixes, p.isPrefix = true) ∧ f.instr.isPrefix = false := by
  induction n generalizing k f with
  | zero => cases h
  | succ n ih =>
    simp only [State.fetchFrom] at h
    split at h
    · cases h
    · split at h
      · rename_i hp
        rw [Option.map_eq_some_iff] at h
        obtain ⟨g, hg, rfl⟩ := h
        obtain ⟨a, b⟩ := ih _ _ hg
        exact ⟨fun p hpp => by
          rcases List.mem_cons.mp hpp with rfl | hpp
          · exact hp
          · exact a p hpp, b⟩
      · rename_i hp
        injection h with h; subst h; exact ⟨fun _ h => (by simp at h), by simpa using hp⟩

end Sys2Proof.Machine
end

