-- ==== Sys2Proof/Laws/Strings.lean ====
section
/-! SUPPORT. The string primitives and their repetition, said once for all ten (43_string.md R210 to R216). -/

namespace Sys2Proof.Machine

/-! ## One iteration -/

/-- `t` differs from `s` in registers, flags and memory at most. -/
def OnlyData (s t : State) : Prop := t = { s with regs := t.regs, flags := t.flags, mem := t.mem }

/-- Changes of registers, flags and memory compose. -/
theorem OnlyData.trans {s t u : State} (h : OnlyData s t) (h' : OnlyData t u) : OnlyData s u := by
  unfold OnlyData at *; rw [h', h]

/-- What every string primitive does in one iteration: it changes registers (not CX, not CS, IP, SS, SP, DS, ES), flags (not DF, and
none unless it compares) and memory (not when it compares), and looks at nothing but these and the segment prefix. -/
structure Iterates (iter : State → State) (compares : Bool) : Prop where
  loc : ∀ s, Local s (iter s)
  only : ∀ s, OnlyData s (iter s)
  cx : ∀ s, (iter s).regs.CX = s.regs.CX
  parts : ∀ s p, p ∉ [RegPart.byte .al, .byte .ah, .si, .di] → (iter s).part p = s.part p
  flags : ∀ s f, f ∉ statusFlags → (iter s).flags.get f = s.flags.get f
  noflags : compares = false → ∀ s, (iter s).flags = s.flags
  nomem : compares = true → ∀ s, (iter s).mem = s.mem
  looks : ∀ s t : State, t.regs = s.regs → t.flags = s.flags → t.mem = s.mem → t.cur.seg = s.cur.seg →
    (iter t).regs = (iter s).regs ∧ (iter t).flags = (iter s).flags ∧ (iter t).mem = (iter s).mem

/-- Stepping SI is local. -/
theorem local_stepSI (s : State) (n : Word) : Local s (s.stepSI n) := local_setReg16 s _ _

/-- Stepping DI is local. -/
theorem local_stepDI (s : State) (n : Word) : Local s (s.stepDI n) := local_setReg16 s _ _

/-- A part of the registers only depends on the registers. -/
theorem part_of_regs {s t : State} (h : t.regs = s.regs) (p : RegPart) : t.part p = s.part p := by
  cases p <;> simp only [State.part, State.reg8, State.sreg, h]

/-- Stepping SI changes SI only. -/
theorem part_stepSI (s : State) (n : Word) (p : RegPart) (h : p ∉ [RegPart.byte .al, .byte .ah, .si, .di]) :
    (s.stepSI n).part p = s.part p := part_setReg16 s .si _ p fun e => h (by simp_all [Reg16.parts])

/-- Stepping DI changes DI only. -/
theorem part_stepDI (s : State) (n : Word) (p : RegPart) (h : p ∉ [RegPart.byte .al, .byte .ah, .si, .di]) :
    (s.stepDI n).part p = s.part p := part_setReg16 s .di _ p fun e => h (by simp_all [Reg16.parts])

/-- Two states that agree on what an iteration looks at. -/
theorem iter_looks {s t : State} (hr : t.regs = s.regs) (hf : t.flags = s.flags) (hm : t.mem = s.mem) (hc : t.cur.seg = s.cur.seg) :
    t.src8 = s.src8 ∧ t.src16 = s.src16 ∧ t.dst8 = s.dst8 ∧ t.dst16 = s.dst16 ∧ ∀ n, t.delta n = s.delta n := by
  refine ⟨?_, ?_, ?_, ?_, fun n => ?_⟩ <;>
    simp only [State.src8, State.src16, State.dst8, State.dst16, State.delta, State.segOr, State.sreg, hr, hf, hm, hc]

theorem iterates_movsb : Iterates iterMovsb false where
  loc s := ((local_write8 s _ _ _).trans (local_stepSI _ _)).trans (local_stepDI _ _)
  only _ := rfl
  cx _ := rfl
  parts s p h := (part_stepDI _ _ p h).trans ((part_stepSI _ _ p h).trans (part_of_regs rfl p))
  flags _ _ _ := rfl
  noflags _ _ := rfl
  nomem h := absurd h (by decide)
  looks s t hr hf hm hc := by
    obtain ⟨h1, -, -, -, h5⟩ := iter_looks hr hf hm hc
    refine ⟨?_, hf, ?_⟩
    · show ((t.regs.set16 .si (t.regs.SI + t.delta 1)).set16 .di (t.regs.DI + t.delta 1)) = _
      rw [hr, h5]; rfl
    · show t.mem.write8 t.regs.ES t.regs.DI t.src8 = _
      rw [hr, hm, h1]; rfl

theorem iterates_movsw : Iterates iterMovsw false where
  loc s := ((local_write16 s _ _ _).trans (local_stepSI _ _)).trans (local_stepDI _ _)
  only _ := rfl
  cx _ := rfl
  parts s p h := (part_stepDI _ _ p h).trans ((part_stepSI _ _ p h).trans (part_of_regs rfl p))
  flags _ _ _ := rfl
  noflags _ _ := rfl
  nomem h := absurd h (by decide)
  looks s t hr hf hm hc := by
    obtain ⟨-, h2, -, -, h5⟩ := iter_looks hr hf hm hc
    refine ⟨?_, hf, ?_⟩
    · show ((t.regs.set16 .si (t.regs.SI + t.delta 2)).set16 .di (t.regs.DI + t.delta 2)) = _
      rw [hr, h5]; rfl
    · show t.mem.write16 t.regs.ES t.regs.DI t.src16 = _
      rw [hr, hm, h2]; rfl

theorem iterates_cmpsb : Iterates iterCmpsb true where
  loc s := ((local_subAlu _ _ s).trans (local_stepSI _ _)).trans (local_stepDI _ _)
  only _ := rfl
  cx _ := rfl
  parts s p h := (part_stepDI _ _ p h).trans ((part_stepSI _ _ p h).trans (part_of_regs rfl p))
  flags s f hf := (frame_setArith s (subOp s.src8 s.dst8 false)).flags f hf
  noflags h := absurd h (by decide)
  nomem _ _ := rfl
  looks s t hr hf hm hc := by
    obtain ⟨h1, -, h3, -, h5⟩ := iter_looks hr hf hm hc
    refine ⟨?_, ?_, hm⟩
    · show ((t.regs.set16 .si (t.regs.SI + t.delta 1)).set16 .di (t.regs.DI + t.delta 1)) = _
      rw [hr, h5]; rfl
    · show t.flags.setArith (subOp t.src8 t.dst8 false) = _
      rw [hf, h1, h3]; rfl

theorem iterates_cmpsw : Iterates iterCmpsw true where
  loc s := ((local_subAlu _ _ s).trans (local_stepSI _ _)).trans (local_stepDI _ _)
  only _ := rfl
  cx _ := rfl
  parts s p h := (part_stepDI _ _ p h).trans ((part_stepSI _ _ p h).trans (part_of_regs rfl p))
  flags s f hf := (frame_setArith s (subOp s.src16 s.dst16 false)).flags f hf
  noflags h := absurd h (by decide)
  nomem _ _ := rfl
  looks s t hr hf hm hc := by
    obtain ⟨-, h2, -, h4, h5⟩ := iter_looks hr hf hm hc
    refine ⟨?_, ?_, hm⟩
    · show ((t.regs.set16 .si (t.regs.SI + t.delta 2)).set16 .di (t.regs.DI + t.delta 2)) = _
      rw [hr, h5]; rfl
    · show t.flags.setArith (subOp t.src16 t.dst16 false) = _
      rw [hf, h2, h4]; rfl

theorem iterates_lodsb : Iterates iterLodsb false where
  loc s := (local_setReg8 s _ _).trans (local_stepSI _ _)
  only _ := rfl
  cx _ := rfl
  parts s p h := (part_stepSI _ _ p h).trans (part_setReg8 s .al _ p fun e => h (by simp_all))
  flags _ _ _ := rfl
  noflags _ _ := rfl
  nomem h := absurd h (by decide)
  looks s t hr hf hm hc := by
    obtain ⟨h1, -, -, -, h5⟩ := iter_looks hr hf hm hc
    refine ⟨?_, hf, hm⟩
    show ((t.regs.set8 .al t.src8).set16 .si (t.regs.SI + t.delta 1)) = _
    rw [hr, h1, h5]; rfl

theorem iterates_lodsw : Iterates iterLodsw false where
  loc s := (local_setReg16 s _ _).trans (local_stepSI _ _)
  only _ := rfl
  cx _ := rfl
  parts s p h := (part_stepSI _ _ p h).trans (part_setReg16 s .ax _ p fun e => h (by simp [Reg16.parts] at e; rcases e with rfl | rfl <;> simp))
  flags _ _ _ := rfl
  noflags _ _ := rfl
  nomem h := absurd h (by decide)
  looks s t hr hf hm hc := by
    obtain ⟨-, h2, -, -, h5⟩ := iter_looks hr hf hm hc
    refine ⟨?_, hf, hm⟩
    show ((t.regs.set16 .ax t.src16).set16 .si (t.regs.SI + t.delta 2)) = _
    rw [hr, h2, h5]; rfl

theorem iterates_stosb : Iterates iterStosb false where
  loc s := (local_write8 s _ _ _).trans (local_stepDI _ _)
  only _ := rfl
  cx _ := rfl
  parts s p h := (part_stepDI _ _ p h).trans (part_of_regs rfl p)
  flags _ _ _ := rfl
  noflags _ _ := rfl
  nomem h := absurd h (by decide)
  looks s t hr hf hm hc := by
    obtain ⟨-, -, -, -, h5⟩ := iter_looks hr hf hm hc
    refine ⟨?_, hf, ?_⟩
    · show (t.regs.set16 .di (t.regs.DI + t.delta 1)) = _
      rw [hr, h5]; rfl
    · show t.mem.write8 t.regs.ES t.regs.DI (t.regs.get8 .al) = _
      rw [hr, hm]; rfl

theorem iterates_stosw : Iterates iterStosw false where
  loc s := (local_write16 s _ _ _).trans (local_stepDI _ _)
  only _ := rfl
  cx _ := rfl
  parts s p h := (part_stepDI _ _ p h).trans (part_of_regs rfl p)
  flags _ _ _ := rfl
  noflags _ _ := rfl
  nomem h := absurd h (by decide)
  looks s t hr hf hm hc := by
    obtain ⟨-, -, -, -, h5⟩ := iter_looks hr hf hm hc
    refine ⟨?_, hf, ?_⟩
    · show (t.regs.set16 .di (t.regs.DI + t.delta 2)) = _
      rw [hr, h5]; rfl
    · show t.mem.write16 t.regs.ES t.regs.DI t.regs.AX = _
      rw [hr, hm]; rfl

theorem iterates_scasb : Iterates iterScasb true where
  loc s := (local_subAlu _ _ s).trans (local_stepDI _ _)
  only _ := rfl
  cx _ := rfl
  parts s p h := (part_stepDI _ _ p h).trans (part_of_regs rfl p)
  flags s f hf := (frame_setArith s (subOp (s.reg8 .al) s.dst8 false)).flags f hf
  noflags h := absurd h (by decide)
  nomem _ _ := rfl
  looks s t hr hf hm hc := by
    obtain ⟨-, -, h3, -, h5⟩ := iter_looks hr hf hm hc
    refine ⟨?_, ?_, hm⟩
    · show (t.regs.set16 .di (t.regs.DI + t.delta 1)) = _
      rw [hr, h5]; rfl
    · show t.flags.setArith (subOp (t.regs.get8 .al) t.dst8 false) = _
      rw [hf, hr, h3]; rfl

theorem iterates_scasw : Iterates iterScasw true where
  loc s := (local_subAlu _ _ s).trans (local_stepDI _ _)
  only _ := rfl
  cx _ := rfl
  parts s p h := (part_stepDI _ _ p h).trans (part_of_regs rfl p)
  flags s f hf := (frame_setArith s (subOp s.regs.AX s.dst16 false)).flags f hf
  noflags h := absurd h (by decide)
  nomem _ _ := rfl
  looks s t hr hf hm hc := by
    obtain ⟨-, -, -, h4, h5⟩ := iter_looks hr hf hm hc
    refine ⟨?_, ?_, hm⟩
    · show (t.regs.set16 .di (t.regs.DI + t.delta 2)) = _
      rw [hr, h5]; rfl
    · show t.flags.setArith (subOp t.regs.AX t.dst16 false) = _
      rw [hf, hr, h4]; rfl

/-- The iteration of a string row. -/
def iterOf (i : Instr) : State → State :=
  match i with
  | .movsb => iterMovsb | .movsw => iterMovsw | .cmpsb => iterCmpsb | .cmpsw => iterCmpsw | .stosb => iterStosb
  | .stosw => iterStosw | .lodsb => iterLodsb | .lodsw => iterLodsw | .scasb => iterScasb | .scasw => iterScasw
  | _ => id

/-- A string row runs its iteration, once or repeated, and the iteration is as `Iterates` says. -/
theorem exec_string (i : Instr) (h : isStringInstr i = true) :
    (∀ s, exec i s = .next (stringOp i (iterOf i) (comparesElements i) s)) ∧ Iterates (iterOf i) (comparesElements i) := by
  unfold isStringInstr at h
  split at h
  · exact ⟨fun _ => rfl, iterates_movsb⟩
  · exact ⟨fun _ => rfl, iterates_movsw⟩
  · exact ⟨fun _ => rfl, iterates_cmpsb⟩
  · exact ⟨fun _ => rfl, iterates_cmpsw⟩
  · exact ⟨fun _ => rfl, iterates_stosb⟩
  · exact ⟨fun _ => rfl, iterates_stosw⟩
  · exact ⟨fun _ => rfl, iterates_lodsb⟩
  · exact ⟨fun _ => rfl, iterates_lodsw⟩
  · exact ⟨fun _ => rfl, iterates_scasb⟩
  · exact ⟨fun _ => rfl, iterates_scasw⟩
  · exact absurd h Bool.false_ne_true

/-! ## Repetition -/

/-- Without a repetition prefix there is one iteration. -/
theorem stringOp_once (i : Instr) (iter : State → State) (c : Bool) (s : State) (h : s.cur.rep = .none) :
    stringOp i iter c s = iter s := by
  unfold stringOp; rw [h]

/-- With a repetition prefix the loop runs. -/
theorem stringOp_rep (i : Instr) (iter : State → State) (c : Bool) (s : State) (h : s.cur.rep ≠ .none) :
    stringOp i iter c s = repLoop i iter c s.regs.CX.toNat s := by
  unfold stringOp
  split
  · contradiction
  · rfl

/-- The ZF test of 43_string.md R216 in the words of the statements. -/
theorem zfEnds_iff (s : State) (c : Bool) : s.zfEnds c = true ↔ c = true ∧ zfMismatch s.cur.rep s.flags.ZF := by
  unfold State.zfEnds zfMismatch
  cases c <;> cases s.cur.rep <;> cases s.flags.ZF <;> simp

/-- A state in which the host asks for nothing goes on. -/
theorem suspend_quiet (s : State) (h : Quiet s) : s.suspend = s := by
  obtain ⟨h1, h2, h3⟩ := h
  simp only [State.suspend, State.deliver, h3, State.sample, h1, h2]

/-- An iteration and the count keep a quiet state quiet. -/
theorem quiet_of_only {s t : State} (h : Quiet s) (ht : OnlyData s t) : Quiet t := by
  rw [ht]; exact h

/-- The repetition loop while the host asks for nothing: no suspension point is felt. -/
def repQuiet (iter : State → State) (c : Bool) : Nat → State → State
  | 0, s => s
  | n + 1, s =>
    if s.regs.CX = 0 then s
    else if (iter s).countDown.zfEnds c then (iter s).countDown else repQuiet iter c n (iter s).countDown

/-- An iteration with its count changes registers, flags and memory only. -/
theorem iter_countDown_only {iter : State → State} {c : Bool} (h : Iterates iter c) (s : State) :
    OnlyData s (iter s).countDown := (h.only s).trans rfl

/-- The loop is the quiet one while the host asks for nothing. -/
theorem repLoop_quiet {iter : State → State} {c : Bool} (h : Iterates iter c) (i : Instr) (n : Nat) (s : State) (hq : Quiet s) :
    repLoop i iter c n s = repQuiet iter c n s := by
  induction n generalizing s with
  | zero => rfl
  | succ n ih =>
    have hq' : Quiet (iter s).countDown := quiet_of_only hq (iter_countDown_only h s)
    simp only [repLoop, repQuiet]
    split
    · rfl
    · split
      · rfl
      · rw [suspend_quiet _ hq', hq'.1]
        exact ih _ hq'

/-- The quiet loop changes registers, flags and memory only. -/
theorem repQuiet_only {iter : State → State} {c : Bool} (h : Iterates iter c) (n : Nat) (s : State) :
    OnlyData s (repQuiet iter c n s) := by
  induction n generalizing s with
  | zero => exact rfl
  | succ n ih =>
    simp only [repQuiet]
    split
    · exact rfl
    · split
      · exact iter_countDown_only h s
      · exact (iter_countDown_only h s).trans (ih _)

/-- The quiet loop keeps memory canonical. -/
theorem wf_repQuiet {iter : State → State} {c : Bool} (h : Iterates iter c) (n : Nat) (s : State) (hw : s.mem.wf = true) :
    (repQuiet iter c n s).mem.wf = true := by
  induction n generalizing s with
  | zero => exact hw
  | succ n ih =>
    have hw' : (iter s).countDown.mem.wf = true := (h.loc s).wf hw
    simp only [repQuiet]
    split
    · exact hw
    · split
      · exact hw'
      · exact ih _ hw'

/-! ## What a repetition leaves alone -/

/-- Counting down changes CX only. -/
theorem part_countDown (s : State) (p : RegPart) (h : p ∉ [RegPart.byte .cl, .byte .ch]) : s.countDown.part p = s.part p :=
  part_setReg16 s .cx _ p h

/-- An iteration writes the register parts of its row only. -/
theorem part_iterOf (i : Instr) (h : isStringInstr i = true) (s : State) (p : RegPart) (hp : p ∉ stringParts i) :
    (iterOf i s).part p = s.part p := by
  have si : ∀ (t : State) n, RegPart.si ≠ p → (t.stepSI n).part p = t.part p :=
    fun t n hn => part_setReg16 t .si _ p (by simpa [Reg16.parts] using hn.symm)
  have di : ∀ (t : State) n, RegPart.di ≠ p → (t.stepDI n).part p = t.part p :=
    fun t n hn => part_setReg16 t .di _ p (by simpa [Reg16.parts] using hn.symm)
  have nsi : p ∉ stringParts i → RegPart.si ∈ stringParts i → RegPart.si ≠ p := fun h1 h2 e => h1 (e ▸ h2)
  have ndi : p ∉ stringParts i → RegPart.di ∈ stringParts i → RegPart.di ≠ p := fun h1 h2 e => h1 (e ▸ h2)
  unfold isStringInstr at h
  split at h
  · exact (di _ _ (ndi hp (by decide))).trans ((si _ _ (nsi hp (by decide))).trans (part_of_regs rfl p))
  · exact (di _ _ (ndi hp (by decide))).trans ((si _ _ (nsi hp (by decide))).trans (part_of_regs rfl p))
  · exact (di _ _ (ndi hp (by decide))).trans ((si _ _ (nsi hp (by decide))).trans (part_of_regs rfl p))
  · exact (di _ _ (ndi hp (by decide))).trans ((si _ _ (nsi hp (by decide))).trans (part_of_regs rfl p))
  · exact (di _ _ (ndi hp (by decide))).trans (part_of_regs rfl p)
  · exact (di _ _ (ndi hp (by decide))).trans (part_of_regs rfl p)
  · exact (si _ _ (nsi hp (by decide))).trans (part_setReg8 s .al _ p fun e => hp (by rw [List.mem_singleton.mp e]; decide))
  · exact (si _ _ (nsi hp (by decide))).trans (part_setReg16 s .ax _ p fun e => hp (by
      simp [Reg16.parts] at e; rcases e with rfl | rfl <;> simp [stringParts]))
  · exact (di _ _ (ndi hp (by decide))).trans (part_of_regs rfl p)
  · exact (di _ _ (ndi hp (by decide))).trans (part_of_regs rfl p)
  · exact absurd h Bool.false_ne_true

/-- The place of an element, in the arithmetic of words. -/
theorem elementAt_eq (s : State) (n k : Nat) : s.elementAt n k = s.regs.DI + BitVec.ofNat 16 k * s.delta (BitVec.ofNat 16 n) := by
  unfold State.elementAt State.delta
  split
  · rw [Int.sub_eq_add_neg, BitVec.ofInt_add, ← Int.mul_neg_one, BitVec.ofInt_mul, BitVec.ofInt_mul]
    simp only [BitVec.ofInt_natCast, BitVec.ofNat_toNat, BitVec.setWidth_eq]
    have : BitVec.ofInt 16 (-1) = -1#16 := by decide
    rw [this, BitVec.mul_neg, BitVec.mul_neg, BitVec.mul_one, BitVec.mul_comm]
  · rw [BitVec.ofInt_add, BitVec.ofInt_mul]
    simp only [BitVec.ofInt_natCast, BitVec.ofNat_toNat, BitVec.setWidth_eq]
    ring

/-- Element number 0 lies at DI. -/
theorem elementAt_zero (s : State) (n : Nat) : s.elementAt n 0 = s.regs.DI := by
  rw [elementAt_eq, show BitVec.ofNat 16 0 = 0#16 from rfl, BitVec.zero_mul, BitVec.add_zero]

/-- After a step of DI the elements are numbered from the next one. -/
theorem elementAt_succ {s t : State} {n : Nat} (hd : t.regs.DI = s.regs.DI + s.delta (BitVec.ofNat 16 n))
    (hf : t.flags.DF = s.flags.DF) (k : Nat) : t.elementAt n k = s.elementAt n (k + 1) := by
  have h : t.delta (BitVec.ofNat 16 n) = s.delta (BitVec.ofNat 16 n) := by simp only [State.delta, hf]
  rw [elementAt_eq, elementAt_eq, h, hd, BitVec.ofNat_add]
  generalize s.delta _ = d
  rw [BitVec.add_mul, BitVec.add_assoc, BitVec.add_comm d, show BitVec.ofNat 16 1 * d = d from BitVec.one_mul d]

/-- The elements a storing row has left after one iteration are among those it had before. -/
theorem stringStored_step (i : Instr) (s t : State) (hes : t.regs.ES = s.regs.ES) (hf : t.flags.DF = s.flags.DF)
    (hd : t.regs.DI = (iterOf i s).regs.DI) (hc : t.regs.CX.toNat + 1 = s.regs.CX.toNat) (a : Phys) (h : a ∈ t.stringStored i) :
    a ∈ s.stringStored i := by
  unfold State.stringStored at h ⊢
  split at h
  all_goals first
    | (simp only [List.mem_map, List.mem_range] at h ⊢
       obtain ⟨k, hk, rfl⟩ := h
       exact ⟨k + 1, by omega, by rw [hes, elementAt_succ (s := s) hd hf]⟩)
    | (simp only [List.mem_flatMap, List.mem_range] at h ⊢
       obtain ⟨k, hk, h⟩ := h
       exact ⟨k + 1, by omega, by rw [hes, elementAt_succ (s := s) hd hf] at h; exact h⟩)
    | exact absurd h List.not_mem_nil

/-- An iteration writes the first element only. -/
theorem mem_iterOf (i : Instr) (h : isStringInstr i = true) (s : State) (hw : s.mem.wf = true) (hc : 0 < s.regs.CX.toNat) (a : Phys)
    (ha : a ∉ s.stringStored i) : (iterOf i s).mem.byteAt a = s.mem.byteAt a := by
  have one : a ∉ (List.range s.regs.CX.toNat).map (fun k => phys s.regs.ES (s.elementAt 1 k)) → a ≠ phys s.regs.ES s.regs.DI :=
    fun h e => h (List.mem_map.mpr ⟨0, List.mem_range.mpr hc, by rw [elementAt_zero, e]⟩)
  have two : a ∉ (List.range s.regs.CX.toNat).flatMap (fun k =>
      [phys s.regs.ES (s.elementAt 2 k), phys s.regs.ES (s.elementAt 2 k) + 1]) →
      a ≠ phys s.regs.ES s.regs.DI ∧ a ≠ phys s.regs.ES s.regs.DI + 1 := fun h =>
    ⟨fun e => h (List.mem_flatMap.mpr ⟨0, List.mem_range.mpr hc, by rw [elementAt_zero, e]; exact List.mem_cons_self⟩),
      fun e => h (List.mem_flatMap.mpr ⟨0, List.mem_range.mpr hc, by
        rw [elementAt_zero, e]; exact List.mem_cons_of_mem _ List.mem_cons_self⟩)⟩
  have w8 : ∀ v : Byte, a ≠ phys s.regs.ES s.regs.DI → (s.mem.write8 s.regs.ES s.regs.DI v).byteAt a = s.mem.byteAt a :=
    fun v hn => (Memory.byteAt_setByteAt s.mem _ a v hw).trans (if_neg hn)
  have w16 : ∀ v : Word, a ≠ phys s.regs.ES s.regs.DI ∧ a ≠ phys s.regs.ES s.regs.DI + 1 →
      (s.mem.write16 s.regs.ES s.regs.DI v).byteAt a = s.mem.byteAt a :=
    fun v hn => (Memory.byteAt_setWordAt s.mem _ a v hw).trans (by rw [if_neg hn.2, if_neg hn.1])
  unfold isStringInstr at h
  split at h
  all_goals first
    | rfl
    | exact w8 _ (one ha)
    | exact w16 _ (two ha)
    | exact absurd h Bool.false_ne_true

/-- The quiet loop writes the register parts of its row and CX only. -/
theorem part_repQuiet (i : Instr) (h : isStringInstr i = true) (c : Bool) (n : Nat) (s : State) (p : RegPart)
    (hp : p ∉ RegPart.byte .cl :: .byte .ch :: stringParts i) : (repQuiet (iterOf i) c n s).part p = s.part p := by
  have hp1 : p ∉ [RegPart.byte .cl, .byte .ch] := fun e => hp (by simp at e ⊢; rcases e with rfl | rfl <;> simp)
  have hp2 : p ∉ stringParts i := fun e => hp (List.mem_cons_of_mem _ (List.mem_cons_of_mem _ e))
  have one : ∀ s, (iterOf i s).countDown.part p = s.part p := fun s => (part_countDown _ p hp1).trans (part_iterOf i h s p hp2)
  induction n generalizing s with
  | zero => rfl
  | succ n ih =>
    simp only [repQuiet]
    split
    · rfl
    · split
      · exact one s
      · exact (ih _).trans (one s)

/-- The quiet loop writes the first CX elements only. -/
theorem mem_repQuiet (i : Instr) (h : isStringInstr i = true) (c : Bool) (n : Nat) (s : State) (hw : s.mem.wf = true) (a : Phys)
    (ha : a ∉ s.stringStored i) : (repQuiet (iterOf i) c n s).mem.byteAt a = s.mem.byteAt a := by
  obtain ⟨-, hi⟩ := exec_string i h
  induction n generalizing s with
  | zero => rfl
  | succ n ih =>
    simp only [repQuiet]
    split
    · rfl
    · rename_i hcx
      have hpos : 0 < s.regs.CX.toNat := Nat.pos_of_ne_zero fun e => hcx (BitVec.eq_of_toNat_eq e)
      have hm : (iterOf i s).countDown.mem.byteAt a = s.mem.byteAt a := mem_iterOf i h s hw hpos a ha
      split
      · exact hm
      · refine (ih (iterOf i s).countDown ((hi.loc s).wf hw) fun e => ha ?_).trans hm
        refine stringStored_step i s (iterOf i s).countDown ?_ ?_ rfl ?_ a e
        · exact hi.parts s (.seg .es) (by decide)
        · exact hi.flags s .df (by decide)
        · show ((iterOf i s).regs.CX - 1).toNat + 1 = _
          rw [hi.cx]
          have := s.regs.CX.isLt
          rw [BitVec.toNat_sub, show (1 : Word).toNat = 1 from rfl]
          omega

/-- A row that stores nothing leaves memory as it is. -/
theorem mem_repQuiet_eq (i : Instr) (h : isStringInstr i = true) (hs : i ∉ [.movsb, .movsw, .stosb, .stosw]) (c : Bool) (n : Nat)
    (s : State) : (repQuiet (iterOf i) c n s).mem = s.mem := by
  have one : ∀ s, (iterOf i s).countDown.mem = s.mem := by
    intro s
    unfold isStringInstr at h
    split at h
    all_goals first | rfl | exact absurd h Bool.false_ne_true | exact absurd (by decide) hs
  induction n generalizing s with
  | zero => rfl
  | succ n ih =>
    simp only [repQuiet]
    split
    · rfl
    · split
      · exact one s
      · exact (ih _).trans (one s)

/-- The quiet loop ends with CX at 0 or on the ZF test, and CX does not grow. -/
theorem repQuiet_ends {iter : State → State} {c : Bool} (h : Iterates iter c) (n : Nat) (s : State) (hn : n = s.regs.CX.toNat) :
    let t := repQuiet iter c n s
    (t.regs.CX = 0 ∨ t.zfEnds c = true) ∧ t.regs.CX.toNat ≤ s.regs.CX.toNat := by
  induction n generalizing s with
  | zero => exact ⟨.inl (BitVec.eq_of_toNat_eq hn.symm), le_refl _⟩
  | succ n ih =>
    have hcx : (iter s).countDown.regs.CX.toNat = n := by
      show ((iter s).regs.CX - 1).toNat = _
      rw [h.cx]
      have := s.regs.CX.isLt
      rw [BitVec.toNat_sub, show (1 : Word).toNat = 1 from rfl]
      omega
    simp only [repQuiet]
    split
    · rename_i e; exact ⟨.inl e, le_refl _⟩
    · split
      · rename_i e; exact ⟨.inr e, by omega⟩
      · have := ih (iter s).countDown hcx.symm
        exact ⟨this.1, by have := this.2; omega⟩

/-- The quiet loop writes status flags only, and none when it does not compare. -/
theorem flags_repQuiet {iter : State → State} {c : Bool} (h : Iterates iter c) (n : Nat) (s : State) :
    (∀ f, f ∉ statusFlags → (repQuiet iter c n s).flags.get f = s.flags.get f) ∧ (c = false → (repQuiet iter c n s).flags = s.flags) := by
  induction n generalizing s with
  | zero => exact ⟨fun _ _ => rfl, fun _ => rfl⟩
  | succ n ih =>
    simp only [repQuiet]
    split
    · exact ⟨fun _ _ => rfl, fun _ => rfl⟩
    · split
      · exact ⟨h.flags s, fun hc => h.noflags hc s⟩
      · exact ⟨fun f hf => ((ih _).1 f hf).trans (h.flags s f hf), fun hc => ((ih _).2 hc).trans (h.noflags hc s)⟩

end Sys2Proof.Machine
end

