-- ==== Sys2Proof/Laws/Run.lean ====
section
/-! SUPPORT. The host's calls, the suspension points, the fatal path and the interrupt dispatch: what each can do. -/

namespace Sys2Proof.Machine

/-! ## The invariant under the shared operations -/

/-- What of the invariant does not concern an instruction in flight. -/
structure Inv.Base (s : State) : Prop where
  mem_wf : s.mem.wf = true
  running_booted : s.run_state ≠ .stopped → s.booted = true
  handles_fresh : ∀ h ∈ s.callbacks, h < s.nextHandle
  handles_nodup : s.callbacks.Nodup

/-- The part of the invariant that stays true inside a tick. -/
theorem Inv.base {s : State} (h : Inv s) : Inv.Base s := ⟨h.mem_wf, h.running_booted, h.handles_fresh, h.handles_nodup⟩

/-- A change that touches no callback, keeps memory canonical and starts no run of a machine without an image. -/
theorem Inv.Base.of {s t : State} (h : Inv.Base s) (hm : t.mem.wf = true)
    (hb : t.run_state ≠ .stopped → t.booted = true) (hc : t.callbacks = s.callbacks) (hn : t.nextHandle = s.nextHandle) :
    Inv.Base t :=
  ⟨hm, hb, by rw [hc, hn]; exact h.handles_fresh, by rw [hc]; exact h.handles_nodup⟩

/-- A plain change keeps it. -/
theorem Inv.Base.plain {s t : State} (h : Inv.Base s) (ht : Plain s t) : Inv.Base t :=
  h.of (ht.wf h.mem_wf) (by rw [ht.rest]; exact h.running_booted) (by rw [ht.rest]) (by rw [ht.rest])

/-! ## The boot entries and the host's calls -/

/-- A boot entry is refused with a message, or leaves registers, flags, memory and `LAST_CS:LAST_IP` of a booted machine and nothing
else changed. -/
theorem bootFloppy_cases (s : State) (image : Option (List Byte)) :
    s.bootFloppy image = s.log .preBootError ∨
      ∃ regs mem, mem.wf = true ∧ s.bootFloppy image =
        { s with regs := regs, flags := Flags.clear, mem := mem, LAST_CS := 0, LAST_IP := 0, booted := true } := by
  unfold State.bootFloppy
  split
  · exact .inl rfl
  · split
    · exact .inr ⟨_, _, Memory.wf_writeBytes [] 0 0x7C00 _ rfl, rfl⟩
    · exact .inl rfl

/-- A boot entry is refused with a message, or leaves registers, flags, memory and `LAST_CS:LAST_IP` of a booted machine and nothing
else changed. -/
theorem bootCom_cases (s : State) (segment : Word) (image : Option (List Byte)) :
    s.bootCom segment image = s.log .preBootError ∨
      ∃ regs mem, mem.wf = true ∧ s.bootCom segment image =
        { s with regs := regs, flags := Flags.clear, mem := mem, LAST_CS := 0, LAST_IP := 0, booted := true } := by
  unfold State.bootCom
  split
  · exact .inl rfl
  · split
    · exact .inr ⟨_, _, Memory.wf_write16 _ segment 0xFFFE 0 (Memory.wf_writeBytes [] segment 0x0100 _ rfl), rfl⟩
    · exact .inl rfl

/-- A call of the host keeps the part of the invariant that does not concern an instruction. -/
theorem base_hostCall (s : State) (c : HostCall) (h : Inv.Base s) : Inv.Base (s.hostCall c) := by
  cases c with
  | start =>
    simp only [State.hostCall]
    split
    · rename_i e; exact ⟨h.1, fun _ => e.2, h.3, h.4⟩
    · exact h
  | stop => exact ⟨h.1, h.2, h.3, h.4⟩
  | setPaused b => cases b <;> (simp only [State.hostCall]; split <;> exact ⟨h.1, h.2, h.3, h.4⟩)
  | registerCallback =>
    refine ⟨h.1, h.2, fun k hk => ?_, ?_⟩
    · simp only [State.hostCall, State.callbacks_log, State.nextHandle_log, List.mem_append, List.mem_singleton] at hk ⊢
      rcases hk with hk | rfl
      · exact Nat.lt_succ_of_lt (h.3 k hk)
      · exact Nat.lt_succ_self _
    · simp only [State.hostCall, State.callbacks_log]
      refine List.nodup_append.mpr ⟨h.4, List.nodup_singleton _, fun a ha b hb => ?_⟩
      rw [List.mem_singleton.mp hb]
      exact Nat.ne_of_lt (h.3 a ha)
  | unregisterCallback k =>
    exact ⟨h.1, h.2, fun j hj => h.3 j (List.mem_filter.mp hj).1, h.4.filter _⟩
  | bootFloppy image =>
    simp only [State.hostCall]
    split
    · rcases bootFloppy_cases s image with e | ⟨r, m, hm, e⟩ <;> rw [e]
      · exact ⟨h.1, h.2, h.3, h.4⟩
      · exact ⟨hm, fun _ => rfl, h.3, h.4⟩
    · exact h
  | bootCom seg image =>
    simp only [State.hostCall]
    split
    · rcases bootCom_cases s seg image with e | ⟨r, m, hm, e⟩ <;> rw [e]
      · exact ⟨h.1, h.2, h.3, h.4⟩
      · exact ⟨hm, fun _ => rfl, h.3, h.4⟩
    · exact h

/-- Once an image has been loaded, it stays so: a call of the host never takes it back (70_reset_and_hazards.md R390). -/
theorem hostCall_booted (s : State) (c : HostCall) (h : s.booted = true) : (s.hostCall c).booted = true := by
  cases c with
  | setPaused b => cases b <;> (unfold State.hostCall; dsimp only; split <;> exact h)
  | start => unfold State.hostCall; dsimp only; split <;> exact h
  | bootFloppy image =>
    unfold State.hostCall; dsimp only; split
    · rcases bootFloppy_cases s image with e | ⟨r, m, hm, e⟩
      · rw [e]; exact h
      · rw [e]
    · exact h
  | bootCom g image =>
    unfold State.hostCall; dsimp only; split
    · rcases bootCom_cases s g image with e | ⟨r, m, hm, e⟩
      · rw [e]; exact h
      · rw [e]
    · exact h
  | _ => exact h

/-- What a call of the host never touches: the instruction in flight, and the answers of the outside. -/
theorem hostCall_keeps (s : State) (c : HostCall) : (s.hostCall c).pending = s.pending ∧ (s.hostCall c).cur = s.cur ∧
    (s.hostCall c).inbox = s.inbox ∧ (s.hostCall c).choices = s.choices ∧ (s.hostCall c).draws = s.draws ∧
    (s.hostCall c).MSDOS_ENABLED = s.MSDOS_ENABLED := by
  cases c with
  | setPaused b => cases b <;> (unfold State.hostCall; dsimp only; split <;> exact ⟨rfl, rfl, rfl, rfl, rfl, rfl⟩)
  | bootFloppy image =>
    unfold State.hostCall; dsimp only
    split
    · rcases bootFloppy_cases s image with e | ⟨r, m, hm, e⟩ <;> rw [e] <;> exact ⟨rfl, rfl, rfl, rfl, rfl, rfl⟩
    · exact ⟨rfl, rfl, rfl, rfl, rfl, rfl⟩
  | bootCom seg image =>
    unfold State.hostCall; dsimp only
    split
    · rcases bootCom_cases s seg image with e | ⟨r, m, hm, e⟩ <;> rw [e] <;> exact ⟨rfl, rfl, rfl, rfl, rfl, rfl⟩
    · exact ⟨rfl, rfl, rfl, rfl, rfl, rfl⟩
  | start => unfold State.hostCall; dsimp only; split <;> exact ⟨rfl, rfl, rfl, rfl, rfl, rfl⟩
  | _ => exact ⟨rfl, rfl, rfl, rfl, rfl, rfl⟩

/-- A call of the host changes the run state only from Stopped to Running, by `Start()` once an image has been loaded; and from Stopped it leaves a requested state
other than Stopped only so (60_exceptions.md R372, R373). -/
theorem hostCall_run (s : State) (c : HostCall) :
    ((s.hostCall c).run_state = s.run_state ∨
      (s.run_state = .stopped ∧ s.booted = true ∧ c = .start ∧ (s.hostCall c).run_state = .running)) ∧
      ((s.run_state = .stopped → s.requested_state = .stopped) →
        (s.hostCall c).run_state = .stopped → (s.hostCall c).requested_state = .stopped) := by
  cases c with
  | start =>
    unfold State.hostCall; dsimp only
    split
    · rename_i h; exact ⟨.inr ⟨h.1, h.2, rfl, rfl⟩, fun _ h => nomatch h⟩
    · exact ⟨.inl rfl, id⟩
  | stop => exact ⟨.inl rfl, fun _ _ => rfl⟩
  | setPaused b =>
    cases b <;> (unfold State.hostCall; dsimp only) <;> split
    · rename_i h; exact ⟨.inl rfl, fun h1 h2 => absurd (h.symm.trans (h1 h2)) (by decide)⟩
    · exact ⟨.inl rfl, id⟩
    · rename_i h; exact ⟨.inl rfl, fun h1 h2 => absurd (h.symm.trans (h1 h2)) (by decide)⟩
    · exact ⟨.inl rfl, id⟩
  | bootFloppy image =>
    unfold State.hostCall; dsimp only
    split
    · rcases bootFloppy_cases s image with e | ⟨r, m, hm, e⟩ <;> rw [e] <;> exact ⟨.inl rfl, id⟩
    · exact ⟨.inl rfl, id⟩
  | bootCom seg image =>
    unfold State.hostCall; dsimp only
    split
    · rcases bootCom_cases s seg image with e | ⟨r, m, hm, e⟩ <;> rw [e] <;> exact ⟨.inl rfl, id⟩
    · exact ⟨.inl rfl, id⟩
  | registerCallback => exact ⟨.inl rfl, id⟩
  | unregisterCallback h => exact ⟨.inl rfl, id⟩

/-- A call that is not a boot entry, or one while not Stopped, changes no register, no flag and no byte of memory. -/
theorem hostCall_data (s : State) (c : HostCall)
    (h : s.run_state ≠ .stopped ∨ ((∀ b, c ≠ .bootFloppy b) ∧ ∀ g b, c ≠ .bootCom g b)) :
    (s.hostCall c).regs = s.regs ∧ (s.hostCall c).flags = s.flags ∧ (s.hostCall c).mem = s.mem ∧
      (s.hostCall c).LAST_CS = s.LAST_CS ∧ (s.hostCall c).LAST_IP = s.LAST_IP := by
  cases c with
  | setPaused b => cases b <;> (unfold State.hostCall; dsimp only; split <;> exact ⟨rfl, rfl, rfl, rfl, rfl⟩)
  | start => unfold State.hostCall; dsimp only; split <;> exact ⟨rfl, rfl, rfl, rfl, rfl⟩
  | bootFloppy image =>
    rcases h with h | h
    · unfold State.hostCall; dsimp only; rw [if_neg h]; exact ⟨rfl, rfl, rfl, rfl, rfl⟩
    · exact absurd rfl (h.1 image)
  | bootCom seg image =>
    rcases h with h | h
    · unfold State.hostCall; dsimp only; rw [if_neg h]; exact ⟨rfl, rfl, rfl, rfl, rfl⟩
    · exact absurd rfl (h.2 seg image)
  | _ => exact ⟨rfl, rfl, rfl, rfl, rfl⟩

/-! ## Batches -/

/-- Anything that every call keeps, a batch keeps. -/
theorem hostCalls_induct {P : State → Prop} (cs : List HostCall) (h : ∀ s, P s → ∀ c ∈ cs, P (s.hostCall c)) (s : State) (h0 : P s) :
    P (s.hostCalls cs) := by
  induction cs generalizing s with
  | nil => exact h0
  | cons c cs ih =>
    exact ih (fun s hs d hd => h s hs d (List.mem_cons_of_mem _ hd)) _ (h s h0 c List.mem_cons_self)

/-- The calls of the next batch are made on the state with the batch taken. -/
theorem deliver_eq (s : State) : s.deliver = ({ s with inbox := s.inbox.tail } : State).hostCalls (s.inbox.headD []) := by
  unfold State.deliver
  cases h : s.inbox with
  | nil => show s = { s with inbox := [] }; rw [← h]
  | cons b r => rfl

/-! ## The fatal path -/

/-- Everything `raise` does (60_exceptions.md R332). -/
theorem raise_spec (start now : State) (e : FatalError) :
    let t := State.raise start now e
    t.regs = { start.regs with CS := start.LAST_CS, IP := start.LAST_IP } ∧ t.flags = start.flags ∧ t.mem = start.mem ∧
      t.LAST_CS = now.LAST_CS ∧ t.LAST_IP = now.LAST_IP ∧ t.run_state = .stopped ∧ t.requested_state = .stopped ∧
      t.booted = now.booted ∧ t.callbacks = now.callbacks ∧ t.nextHandle = now.nextHandle ∧ t.cur = InFlight.empty ∧ t.pending = none ∧
      t.inbox = now.inbox ∧ t.choices = now.choices ∧ t.draws = now.draws ∧
      t.host_log = .fatal e :: .stateChanged now.callbacks .stopped :: now.host_log :=
  ⟨rfl, rfl, rfl, rfl, rfl, rfl, rfl, rfl, rfl, rfl, rfl, rfl, rfl, rfl, rfl, rfl⟩

/-! ## The interrupt dispatch -/

/-- Logging backend calls changes what the host sees only. -/
theorem logCalls_eq (s : State) (cs : List BackendCall) :
    s.logCalls cs = { s with host_log := (cs.map HostEvent.backend).reverse ++ s.host_log } := by
  induction cs generalizing s with
  | nil => rfl
  | cons c cs ih => rw [State.logCalls, ih]; simp [State.log]

/-- The entry of a dispatch changes SP, memory, IF and TF only. -/
theorem enterInterrupt_eq (s : State) : s.enterInterrupt = { s with
    regs := { s.regs with SP := s.regs.SP - 6 }
    flags := { s.flags with IF := false, TF := false }
    mem := ((s.mem.write16 s.regs.SS (s.regs.SP - 2) s.flags.pack).write16 s.regs.SS (s.regs.SP - 2 - 2) s.regs.CS).write16
      s.regs.SS (s.regs.SP - 2 - 2 - 2) s.regs.IP } := by
  have h : s.regs.SP - 6 = s.regs.SP - 2 - 2 - 2 := by
    rw [BitVec.sub_sub, BitVec.sub_sub]; rfl
  rw [h]; rfl

/-- A layer's new memory is canonical when the old one is. -/
theorem wf_intLayer (vector : Byte) (msdos : Bool) (c : Choice) (draw : Nat) (v u : View) (h : v.mem.wf = true)
    (ha : (intLayer vector msdos c draw v).answer = .handled u) : u.mem.wf = true := by
  have backed : ∀ (w : World) (cs : List BackendCall) (x : View), x.mem.wf = true →
      ∀ u, (Served.backed w cs x).answer = .handled u → u.mem.wf = true := by
    intro w cs x hx u hu
    unfold Served.backed at hu
    split at hu
    · cases hu
    · cases hu; exact hx
  have video : ∀ (w : World), (v.textBuffer w).mem.wf = true := fun w => Memory.wf_writeAll _ _ h
  have str : ∀ (w : World) (sent : List BackendCall) (str : Option (List Byte)) (k : List Byte → Served),
      (∀ bs u, (k bs).answer = .handled u → u.mem.wf = true) → ∀ u, (withString w sent str k).answer = .handled u →
        u.mem.wf = true := by
    intro w sent str k hk u hu
    unfold withString at hu
    split at hu
    · exact hk _ _ hu
    · cases hu
    · cases hu
  have bios : ∀ w u, (serveBios vector w draw v).answer = .handled u → u.mem.wf = true := by
    intro w u hu
    unfold serveBios at hu
    split at hu
    · unfold serveVideo at hu
      dsimp only at hu
      split at hu <;> first | exact backed _ _ _ (by exact video w) _ hu | cases hu
    · unfold serveDisk at hu
      dsimp only at hu
      split at hu
      · split at hu
        · exact backed _ _ _ (by exact Memory.wf_writeBytes _ _ _ _ h) _ hu
        · exact backed _ _ _ (by exact Memory.wf_writeBytes _ _ _ _ h) _ hu
      · cases hu
    · unfold serveKeyboard at hu
      split at hu
      · split at hu
        · cases hu
        · exact backed _ _ _ (by exact h) _ hu
      · exact backed _ _ _ (by split <;> exact h) _ hu
      · cases hu
    · unfold serveTime at hu
      split at hu
      · cases hu; exact h
      · cases hu
    · cases hu
  have dos : ∀ w u, (serveDos vector w v).answer = .handled u → u.mem.wf = true := by
    intro w u hu
    unfold serveDos at hu
    split at hu
    · unfold serveDos21 at hu
      dsimp only at hu
      split at hu
      · exact backed _ _ _ (by exact h) _ hu
      · exact str _ _ _ _ (fun bs u hu => backed _ _ _ (by exact h) _ hu) _ hu
      · cases hu; exact h
      · cases hu; exact h
      · exact str _ _ _ _ (fun bs u hu => backed _ _ _ (by split <;> exact h) _ hu) _ hu
      · exact backed _ _ _ (by exact Memory.wf_writeBytes _ _ _ _ h) _ hu
      · exact backed _ _ _ (by exact h) _ hu
      · cases hu
      · cases hu
    · cases hu
  cases c with
  | conforming w =>
    simp only [intLayer, conformingLayer] at ha
    split at ha
    · split at ha
      · exact dos w u ha
      · exact bios w u ha
    · exact bios w u ha
  | claims a =>
    cases a with
    | handled regs flags writes => cases ha; exact Memory.wf_writeAll _ _ h
    | _ => cases ha

/-- The answer of the layer to the dispatch of `vector` in this state. -/
def State.answerTo (s : State) (vector : Byte) : Answer :=
  (intLayer vector s.MSDOS_ENABLED s.nextChoice s.draws s.enterInterrupt.view).answer

/-- The state at the end of a dispatch, before the answer is committed: the entry, the answer used up, the backend calls logged. -/
def State.afterCall (s : State) (vector : Byte) : State :=
  s.enterInterrupt.dropChoice.logCalls
    (intLayer vector s.MSDOS_ENABLED s.nextChoice s.draws s.enterInterrupt.view).calls

/-- The dispatch by the layer's answer (60_exceptions.md R340, R341). -/
theorem interrupt_eq (s : State) (vector : Byte) : s.interrupt vector =
    match s.answerTo vector with
    | .handled v => .next ((s.afterCall vector).commit v)
    | .notHandled => .next (State.raise s (s.afterCall vector) (.unhandledInterrupt vector (s.reg8 .ah)))
    | .terminate => .next (s.afterCall vector).endRun
    | .hostIOError msg => .next (State.raise s (s.afterCall vector) (.hostIOError msg))
    | .never why => .fault why := by
  unfold State.interrupt State.answerTo State.afterCall
  dsimp only
  cases (intLayer vector s.MSDOS_ENABLED s.nextChoice s.draws s.enterInterrupt.view).answer <;> rfl

/-- `Handled`: the layer's registers, flags and memory are committed. -/
theorem interrupt_handled (s : State) (vector : Byte) (v : View) (h : s.answerTo vector = .handled v) :
    s.interrupt vector = .next ((s.afterCall vector).commit v) := by rw [interrupt_eq, h]

/-- `NotHandled` is fatal. -/
theorem interrupt_notHandled (s : State) (vector : Byte) (h : s.answerTo vector = .notHandled) :
    s.interrupt vector = .next (State.raise s (s.afterCall vector) (.unhandledInterrupt vector (s.reg8 .ah))) := by
  rw [interrupt_eq, h]

/-- `Terminate` ends the run. -/
theorem interrupt_terminate (s : State) (vector : Byte) (h : s.answerTo vector = .terminate) :
    s.interrupt vector = .next (s.afterCall vector).endRun := by rw [interrupt_eq, h]

/-- `HostIOError` is fatal. -/
theorem interrupt_hostIOError (s : State) (vector : Byte) (msg : String) (h : s.answerTo vector = .hostIOError msg) :
    s.interrupt vector = .next (State.raise s (s.afterCall vector) (.hostIOError msg)) := by rw [interrupt_eq, h]

/-- What stays through the call of the layer. -/
theorem afterCall_keeps (s : State) (vector : Byte) :
    let t := s.afterCall vector
    t.LAST_CS = s.LAST_CS ∧ t.LAST_IP = s.LAST_IP ∧ t.run_state = s.run_state ∧ t.requested_state = s.requested_state ∧
      t.callbacks = s.callbacks ∧ t.nextHandle = s.nextHandle ∧ t.cur = s.cur ∧ t.pending = s.pending ∧ t.inbox = s.inbox ∧
      t.booted = s.booted ∧ t.MSDOS_ENABLED = s.MSDOS_ENABLED ∧ t.regs = s.enterInterrupt.regs ∧ t.flags = s.enterInterrupt.flags ∧
      t.mem = s.enterInterrupt.mem := by
  simp only [State.afterCall, logCalls_eq]
  exact ⟨rfl, rfl, rfl, rfl, rfl, rfl, rfl, rfl, rfl, rfl, rfl, rfl, rfl, rfl⟩

/-- The four rows that can dispatch, and which vector (60_exceptions.md R338). -/
theorem exec_dispatches (i : Instr) (s : State) (h : dispatches i = true) :
    (∃ vector, exec i s = s.interrupt vector) ∨ ∃ t, exec i s = .next t ∧ Local s t := by
  unfold dispatches at h
  split at h
  · exact .inl ⟨_, rfl⟩
  · exact .inl ⟨_, rfl⟩
  · rename_i rm
    have e : exec (.divRm8 rm) s = s.div8 (s.rm8 rm) := rfl
    rw [e]; unfold State.div8; dsimp only
    split
    · exact .inl ⟨_, rfl⟩
    · exact .inr ⟨_, rfl, ⟨⟨rfl, id⟩, rfl, rfl⟩⟩
  · rename_i rm
    have e : exec (.divRm16 rm) s = s.div16 (s.rm16 rm) := rfl
    rw [e]; unfold State.div16; dsimp only
    split
    · exact .inl ⟨_, rfl⟩
    · exact .inr ⟨_, rfl, ⟨⟨rfl, id⟩, rfl, rfl⟩⟩
  · exact absurd h Bool.false_ne_true

/-! ## Prefixes -/

/-- A prefix changes the record of the instruction only. -/
theorem exec_prefix (p : Instr) (h : p.isPrefix = true) (s : State) : ∃ r, exec p s = .next { s with cur := r } := by
  unfold Instr.isPrefix at h
  split at h
  all_goals first | exact ⟨_, rfl⟩ | exact absurd h Bool.false_ne_true

/-- Prefixes and an instruction: the instruction, with the record the prefixes have written. -/
theorem execAll_prefixes (ps : List Instr) (hps : ∀ p ∈ ps, p.isPrefix = true) (i : Instr) (s : State) :
    ∃ r, execAll (ps ++ [i]) s = exec i { s with cur := r } := by
  induction ps generalizing s with
  | nil =>
    refine ⟨s.cur, ?_⟩
    show (match exec i s with | .next t => execAll [] t | .fault r => .fault r | .refused r => .refused r) = _
    cases exec i s <;> rfl
  | cons p ps ih =>
    obtain ⟨r, hr⟩ := exec_prefix p (hps p (by simp)) s
    obtain ⟨r', hr'⟩ := ih (fun q hq => hps q (by simp [hq])) { s with cur := r }
    exact ⟨r', by rw [List.cons_append, execAll, hr]; exact hr'⟩

/-! ## Services -/

/-- A service whose string has its terminator goes on with the string. -/
@[simp] theorem withString_some (w : World) (sent : List BackendCall) (bs : List Byte) (k : List Byte → Served) :
    withString w sent (some bs) k = k bs := rfl

/-- A service whose string has no terminator ends in `HostIOError` with the calls it has made, or never
(93_implementation_defined.md U11). -/
theorem withString_none (w : World) (sent : List BackendCall) (k : List Byte → Served) : withString w sent none k =
    match w.ioError with
    | some msg => { answer := .hostIOError msg, calls := sent }
    | none => { answer := .never .stringNeverEnds, calls := [] } := by
  cases h : w.ioError <;> simp [withString, h]

/-- A string with its terminator within the segment is found. -/
theorem stringBytes_eq (m : Memory) (seg : Word) (stop : Byte) (fuel : Nat) (off : Word) (bs : List Byte) (hn : bs.length < fuel)
    (hs : stop ∉ bs) (hb : ∀ k : Nat, k < bs.length → m.read8 seg (off + BitVec.ofNat 16 k) = bs.getD k 0)
    (he : m.read8 seg (off + BitVec.ofNat 16 bs.length) = stop) : stringBytes m seg stop fuel off = some bs := by
  induction bs generalizing fuel off with
  | nil =>
    cases fuel with
    | zero => exact absurd hn (Nat.not_lt_zero _)
    | succ fuel =>
      rw [List.length_nil, show BitVec.ofNat 16 0 = 0#16 from rfl, BitVec.add_zero] at he
      simp only [stringBytes, he, if_true]
  | cons b bs ih =>
    cases fuel with
    | zero => exact absurd hn (Nat.not_lt_zero _)
    | succ fuel =>
      have h0 : m.read8 seg off = b := by
        have := hb 0 (by simp)
        rwa [show BitVec.ofNat 16 0 = 0#16 from rfl, BitVec.add_zero] at this
      have shift : ∀ k : Nat, off + 1 + BitVec.ofNat 16 k = off + BitVec.ofNat 16 (k + 1) := fun k => by
        rw [BitVec.ofNat_add, BitVec.add_comm (BitVec.ofNat 16 k), ← BitVec.add_assoc]; rfl
      have := ih fuel (off + 1) (by simpa using hn) (fun e => hs (List.mem_cons_of_mem _ e))
        (fun k hk => by rw [shift]; exact hb (k + 1) (by simpa using hk)) (by rw [shift]; exact he)
      simp only [stringBytes, h0, this]
      have hne : b ≠ stop := by rintro rfl; exact hs List.mem_cons_self
      rw [if_neg hne]
      rfl

/-- A dispatch that the layer handles, with all it leaves (60_exceptions.md R340). -/
theorem interrupt_served (s : State) (vector : Byte) (u : View) (calls : List BackendCall)
    (h : intLayer vector s.MSDOS_ENABLED s.nextChoice s.draws s.enterInterrupt.view = { answer := .handled u, calls := calls }) :
    ∃ t, exec (.intIb vector) s = .next t ∧ t.regs = u.regs ∧ t.flags = u.flags ∧ t.mem = u.mem ∧
      t.host_log = (calls.map HostEvent.backend).reverse ++ s.host_log := by
  refine ⟨_, interrupt_handled s vector u (by rw [State.answerTo, h]), rfl, rfl, rfl, ?_⟩
  show (s.afterCall vector).host_log = _
  rw [State.afterCall, h, logCalls_eq]
  rfl

/-! ## Steps -/

/-- While the run goes on, a step is what follows the suspension point. -/
theorem step_running {s : State} (h : s.run_state ≠ .stopped) (hr : s.suspend.run_state = .running) : step s = runOn s.suspend := by
  unfold step move
  cases e : s.run_state
  · exact absurd e h
  all_goals simp only [hr]

/-- A step depends on the inbox through the batch it takes only. -/
theorem step_of_deliver {s u : State} (hr : u.run_state = s.run_state) (hd : s.deliver = u.deliver) : step s = step u := by
  unfold step move
  rw [hr]
  simp only [State.suspend, hd]

/-! ## Fatal errors -/

/-- From `s` to `t` the log stays as it is, or grows and ends in something that is no fatal error. -/
def LogQuiet (s t : State) : Prop := t.host_log = s.host_log ∨ (t.fatalError? = none ∧ s.host_log.length < t.host_log.length)

/-- Such changes compose. -/
theorem LogQuiet.trans {s t u : State} (h : LogQuiet s t) (h' : LogQuiet t u) : LogQuiet s u := by
  rcases h with h | ⟨h, hl⟩
  · rcases h' with h' | ⟨h', hl'⟩
    · exact .inl (h'.trans h)
    · exact .inr ⟨h', h ▸ hl'⟩
  · rcases h' with h' | ⟨h', hl'⟩
    · exact .inr ⟨by rw [State.fatalError?, h']; exact h, h' ▸ hl⟩
    · exact .inr ⟨h', hl.trans hl'⟩

/-- A call of the host raises no fatal error, and changes the run state only with a message. -/
theorem logQuiet_hostCall (s : State) (c : HostCall) : LogQuiet s (s.hostCall c) ∧
    ((s.hostCall c).host_log = s.host_log → (s.hostCall c).run_state = s.run_state) := by
  cases c with
  | start =>
    unfold State.hostCall; dsimp only; split
    · exact ⟨.inr ⟨rfl, Nat.lt_succ_self _⟩, fun e => absurd (congrArg List.length e) (Nat.succ_ne_self _)⟩
    · exact ⟨.inl rfl, fun _ => rfl⟩
  | setPaused b => cases b <;> (unfold State.hostCall; dsimp only; split <;> exact ⟨.inl rfl, fun _ => rfl⟩)
  | registerCallback => exact ⟨.inr ⟨rfl, Nat.lt_succ_self _⟩, fun _ => rfl⟩
  | bootFloppy image =>
    unfold State.hostCall; dsimp only; split
    · rcases bootFloppy_cases s image with e | ⟨r, m, hm, e⟩ <;> rw [e]
      · exact ⟨.inr ⟨rfl, Nat.lt_succ_self _⟩, fun _ => rfl⟩
      · exact ⟨.inl rfl, fun _ => rfl⟩
    · exact ⟨.inl rfl, fun _ => rfl⟩
  | bootCom g image =>
    unfold State.hostCall; dsimp only; split
    · rcases bootCom_cases s g image with e | ⟨r, m, hm, e⟩ <;> rw [e]
      · exact ⟨.inr ⟨rfl, Nat.lt_succ_self _⟩, fun _ => rfl⟩
      · exact ⟨.inl rfl, fun _ => rfl⟩
    · exact ⟨.inl rfl, fun _ => rfl⟩
  | _ => exact ⟨.inl rfl, fun _ => rfl⟩

/-- The log never gets shorter. -/
theorem LogQuiet.le {s t : State} (h : LogQuiet s t) : s.host_log.length ≤ t.host_log.length := by
  rcases h with h | h
  · rw [h]
  · exact h.2.le

/-- A batch raises no fatal error, and changes the run state only with a message. -/
theorem logQuiet_deliver (s : State) : LogQuiet s s.deliver ∧ (s.deliver.host_log = s.host_log → s.deliver.run_state = s.run_state) := by
  rw [deliver_eq]
  generalize s.inbox.headD [] = cs
  have : ∀ (t : State), LogQuiet s t ∧ (t.host_log = s.host_log → t.run_state = s.run_state) →
      LogQuiet s (t.hostCalls cs) ∧ ((t.hostCalls cs).host_log = s.host_log → (t.hostCalls cs).run_state = s.run_state) := by
    induction cs with
    | nil => exact fun t h => h
    | cons c cs ih =>
      intro t h
      obtain ⟨h1, h2⟩ := logQuiet_hostCall t c
      refine ih _ ⟨h.1.trans h1, fun e => ?_⟩
      have l1 := h.1.le
      have l2 := h1.le
      rw [e] at l2
      have : t.host_log = s.host_log := by
        rcases h.1 with h | h
        · exact h
        · exact absurd (h.2.trans_le l2) (lt_irrefl _)
      exact (h2 (e.trans this.symm)).trans (h.2 this)
  exact this _ ⟨.inl rfl, fun _ => rfl⟩

/-- The look at the requested state raises no fatal error, and does nothing while Stopped. -/
theorem logQuiet_sample (s : State) : LogQuiet s s.sample ∧ (s.run_state = .stopped → s.sample = s) := by
  unfold State.sample
  split <;> first | exact ⟨.inl rfl, fun _ => rfl⟩ | (refine ⟨.inr ⟨rfl, Nat.lt_succ_self _⟩, fun h => ?_⟩; simp_all)

/-- A suspension point raises no fatal error. -/
theorem logQuiet_suspend (s : State) : LogQuiet s s.suspend := (logQuiet_deliver s).1.trans (logQuiet_sample _).1

/-- A repetition loop raises no fatal error. -/
theorem logQuiet_repLoop (i : Instr) {iter c} (h : Iterates iter c) (n : Nat) (s : State) : LogQuiet s (repLoop i iter c n s) := by
  induction n generalizing s with
  | zero => exact .inl rfl
  | succ n ih =>
    have h0 : LogQuiet s (iter s).countDown := .inl (by rw [iter_countDown_only h s])
    simp only [repLoop]
    split
    · exact .inl rfl
    · split
      · exact h0
      · have h1 := h0.trans (logQuiet_suspend (iter s).countDown)
        split
        · exact h1.trans (ih _)
        · exact h1
        · exact h1

/-- A string instruction raises no fatal error (60_exceptions.md R333). -/
theorem logQuiet_string (i : Instr) (hi : isStringInstr i = true) (s t : State) (h : exec i s = .next t) : LogQuiet s t := by
  obtain ⟨e, it⟩ := exec_string i hi
  rw [e] at h
  injection h with h
  subst h
  unfold stringOp
  split
  · exact .inl (by rw [it.only s])
  · exact logQuiet_repLoop i it _ s

/-- Backend calls are no fatal errors. -/
theorem logQuiet_logCalls (s : State) (cs) : LogQuiet s (s.logCalls cs) := by
  induction cs generalizing s with
  | nil => exact .inl rfl
  | cons c cs ih => exact LogQuiet.trans (.inr ⟨rfl, Nat.lt_succ_self _⟩) (ih _)

/-- An instruction raises no fatal error, or ends in the fatal path of the state it began with (60_exceptions.md R332, R333). -/
theorem exec_fatal (i : Instr) (s t : State) (h : exec i s = .next t) : LogQuiet s t ∨
    ∃ now e, t = State.raise s now e ∧ now.LAST_CS = s.LAST_CS ∧ now.LAST_IP = s.LAST_IP ∧ now.callbacks = s.callbacks := by
  by_cases hs : isStringInstr i = true
  · exact .inl (logQuiet_string i hs s t h)
  cases hk : i.decodeError? with
  | some k => rw [exec_refused i k s hk] at h; injection h with h; exact .inr ⟨s, _, h.symm, rfl, rfl, rfl⟩
  | none =>
    by_cases hd : dispatches i = true
    · rcases exec_dispatches i s hd with ⟨v, e⟩ | ⟨t', e, hl⟩
      · obtain ⟨k1, k2, -, -, k5, -⟩ := afterCall_keeps s v
        have hlog : LogQuiet s (s.afterCall v) := LogQuiet.trans (t := s.enterInterrupt.dropChoice) (.inl rfl) (logQuiet_logCalls _ _)
        rw [e, interrupt_eq] at h
        split at h
        · injection h with h; subst h; exact .inl (hlog.trans (.inl rfl))
        · injection h with h; exact .inr ⟨_, _, h.symm, k1, k2, k5⟩
        · injection h with h; subst h; exact .inl (hlog.trans (.inr ⟨rfl, Nat.lt_succ_self _⟩))
        · injection h with h; exact .inr ⟨_, _, h.symm, k1, k2, k5⟩
        · cases h
      · rw [e] at h; injection h with h; subst h; exact .inl (.inl (by rw [hl.rest]))
    · obtain ⟨t', e, hp⟩ := exec_plain i s (by simp [isPlain, hs, hd, hk])
      rw [e] at h; injection h with h; subst h; exact .inl (.inl (by rw [hp.rest]))

/-- A suspension point of a run changes no register, no flag and no byte of memory. -/
theorem suspend_data (s : State) (h : s.run_state ≠ .stopped) :
    s.suspend.regs = s.regs ∧ s.suspend.flags = s.flags ∧ s.suspend.mem = s.mem := by
  have hd : s.deliver.regs = s.regs ∧ s.deliver.flags = s.flags ∧ s.deliver.mem = s.mem := by
    rw [deliver_eq]
    have := hostCalls_induct (P := fun t => t.run_state ≠ .stopped ∧ t.regs = s.regs ∧ t.flags = s.flags ∧ t.mem = s.mem) (s.inbox.headD [])
      (fun t ⟨h0, h1, h2, h3⟩ c _ => by
        obtain ⟨d1, d2, d3, -⟩ := hostCall_data t c (.inl h0)
        refine ⟨?_, d1.trans h1, d2.trans h2, d3.trans h3⟩
        rcases (hostCall_run t c).1 with e | e
        · rw [e]; exact h0
        · exact absurd e.1 h0) { s with inbox := s.inbox.tail } ⟨h, rfl, rfl, rfl⟩
    exact this.2
  have : s.suspend.regs = s.deliver.regs ∧ s.suspend.flags = s.deliver.flags ∧ s.suspend.mem = s.deliver.mem := by
    unfold State.suspend State.sample
    split <;> exact ⟨rfl, rfl, rfl⟩
  exact ⟨this.1.trans hd.1, this.2.1.trans hd.2.1, this.2.2.trans hd.2.2⟩

/-- A suspension point makes no loop wait. -/
theorem suspend_pending (s : State) (i) (h : s.suspend.pending = some i) : s.pending = some i := by
  have hd : s.deliver.pending = s.pending := by
    rw [deliver_eq]
    exact hostCalls_induct (P := fun t => t.pending = s.pending) _ (fun t h c _ => (hostCall_keeps t c).1.trans h) _ rfl
  rw [← hd]
  unfold State.suspend State.sample at h
  split at h <;> first | exact h | cases h

end Sys2Proof.Machine
end

