-- ==== Sys2Proof/Tests/Slice0.lean ====
section
/-! SUPPORT. Tests: ill-formed terms, words written out from the encoding tables, one step on small states, and a witness for every
statement that has hypotheses. -/

namespace Sys2Proof.Tests

open Sys2Proof Sys2Proof.Machine

/-! ## Ill-formed terms (30_encoding.md R96: `[BP]` without a displacement is no cell) -/

/-- The operand that no encoding has, as an `r/m8`. -/
def bad8 : Rm8 := .mem (.based .bp .none)

/-- The operand that no encoding has, as an `r/m16`. -/
def bad16 : Rm16 := .mem (.based .bp .none)

/-- The operand that no encoding has, as a memory operand. -/
def badM : MemOp := .based .bp .none

/-- Every check of `Instr.wf` refuses its ill-formed term. -/
theorem test_ill_formed_1 : ([
    .addRm8R8 bad8 .al, .addRm16R16 bad16 .ax, .addR8Rm8 .al bad8, .addR16Rm16 .ax bad16, .orRm8R8 bad8 .al,
    .orRm16R16 bad16 .ax, .orR8Rm8 .al bad8, .orR16Rm16 .ax bad16, .adcRm8R8 bad8 .al, .adcRm16R16 bad16 .ax,
    .adcR8Rm8 .al bad8, .adcR16Rm16 .ax bad16, .sbbRm8R8 bad8 .al, .sbbRm16R16 bad16 .ax, .sbbR8Rm8 .al bad8,
    .sbbR16Rm16 .ax bad16, .andRm8R8 bad8 .al, .andRm16R16 bad16 .ax, .andR8Rm8 .al bad8, .andR16Rm16 .ax bad16,
    .subRm8R8 bad8 .al, .subRm16R16 bad16 .ax, .subR8Rm8 .al bad8, .subR16Rm16 .ax bad16, .xorRm8R8 bad8 .al,
    .xorRm16R16 bad16 .ax, .xorR8Rm8 .al bad8, .xorR16Rm16 .ax bad16, .cmpRm8R8 bad8 .al, .cmpRm16R16 bad16 .ax,
    .cmpR8Rm8 .al bad8, .cmpR16Rm16 .ax bad16, .addRm8Ib bad8 0, .orRm8Ib bad8 0, .adcRm8Ib bad8 0, .sbbRm8Ib bad8 0,
    .andRm8Ib bad8 0, .subRm8Ib bad8 0, .xorRm8Ib bad8 0, .cmpRm8Ib bad8 0, .addRm16Iw bad16 0, .orRm16Iw bad16 0,
    .adcRm16Iw bad16 0, .sbbRm16Iw bad16 0, .andRm16Iw bad16 0, .subRm16Iw bad16 0, .xorRm16Iw bad16 0, .cmpRm16Iw bad16 0,
    .addRm8Ib82 bad8 0, .orRm8Ib82 bad8 0] : List Instr).all (fun i => !i.wf) = true := by decide

/-- More ill-formed terms. -/
theorem test_ill_formed_2 : ([
    .adcRm8Ib82 bad8 0, .sbbRm8Ib82 bad8 0, .andRm8Ib82 bad8 0, .subRm8Ib82 bad8 0, .xorRm8Ib82 bad8 0, .cmpRm8Ib82 bad8 0,
    .addRm16Sext bad16 0, .orRm16Sext bad16 0, .adcRm16Sext bad16 0, .sbbRm16Sext bad16 0, .andRm16Sext bad16 0,
    .subRm16Sext bad16 0, .xorRm16Sext bad16 0, .cmpRm16Sext bad16 0, .testRm8R8 bad8 .al, .testRm16R16 bad16 .ax,
    .xchgRm8R8 bad8 .al, .xchgRm16R16 bad16 .ax, .movRm8R8 bad8 .al, .movRm16R16 bad16 .ax, .movR8Rm8 .al bad8,
    .movR16Rm16 .ax bad16, .movRm16Sreg bad16 .es, .leaR16M .ax badM, .movSregRm16 .es bad16, .popRm16 bad16,
    .lesR16M .ax badM, .ldsR16M .ax badM, .movRm8Ib bad8 0, .movRm16Iw bad16 0, .rolRm8One bad8, .rorRm8One bad8,
    .rclRm8One bad8, .rcrRm8One bad8, .shlRm8One bad8, .shrRm8One bad8, .sarRm8One bad8, .rolRm16One bad16, .rorRm16One bad16,
    .rclRm16One bad16, .rcrRm16One bad16, .shlRm16One bad16, .shrRm16One bad16, .sarRm16One bad16, .rolRm8Cl bad8,
    .rorRm8Cl bad8, .rclRm8Cl bad8, .rcrRm8Cl bad8, .shlRm8Cl bad8, .shrRm8Cl bad8] : List Instr).all (fun i => !i.wf) = true := by decide

/-- More ill-formed terms. -/
theorem test_ill_formed_3 : ([
    .sarRm8Cl bad8, .rolRm16Cl bad16, .rorRm16Cl bad16, .rclRm16Cl bad16, .rcrRm16Cl bad16, .shlRm16Cl bad16, .shrRm16Cl bad16,
    .sarRm16Cl bad16, .testRm8Ib bad8 0, .notRm8 bad8, .mulRm8 bad8, .divRm8 bad8, .testRm16Iw bad16 0, .notRm16 bad16,
    .mulRm16 bad16, .divRm16 bad16, .incRm8 bad8, .decRm8 bad8, .incRm16 bad16, .decRm16 bad16, .callRm16 bad16, .callM16 badM,
    .jmpRm16 bad16, .jmpM16 badM, .pushRm16 bad16] : List Instr).all (fun i => !i.wf) = true := by decide

/-! ## Decoding: one word for every row of spec/opcode_table.json, written out from its bits (30_encoding.md R95 to R103) -/

/-- These bytes decode to this instruction, and nothing is left. -/
def decodes (bs : List Byte) (i : Instr) : Bool := decode bs == .ok i []

/-- Rows 1 to 20 of the table. -/
theorem test_decode_1 :
    (decodes [0x00, 0xD8] (.addRm8R8 (.reg .al) .bl)
      && decodes [0x01, 0x31] (.addRm16R16 (.mem (.based .bxDi .none)) .si)
      && decodes [0x02, 0x4A, 0x82] (.addR8Rm8 .cl (.mem (.based .bpSi (.d8 0x82))))
      && decodes [0x03, 0xA3, 0x13, 0xF3] (.addR16Rm16 .sp (.mem (.based .bpDi (.d16 0xF313))))
      && decodes [0x04, 0x9A] (.addAlIb 0x9A)
      && decodes [0x05, 0x78, 0x56] (.addAxIw 0x5678)
      && decodes [0x06] (.pushEs)
      && decodes [0x07] (.popEs)
      && decodes [0x08, 0xFD] (.orRm8R8 (.reg .ch) .bh)
      && decodes [0x09, 0x16, 0x34, 0x12] (.orRm16R16 (.mem (.direct 0x1234)) .dx)
      && decodes [0x0A, 0x6F, 0x87] (.orR8Rm8 .ch (.mem (.based .bx (.d8 0x87))))
      && decodes [0x0B, 0x80, 0x10, 0xF0] (.orR16Rm16 .ax (.mem (.based .bxSi (.d16 0xF010))))
      && decodes [0x0C, 0x9A] (.orAlIb 0x9A)
      && decodes [0x0D, 0x78, 0x56] (.orAxIw 0x5678)
      && decodes [0x0E] (.pushCs)
      && decodes [0x0F] (.unimpl0F)
      && decodes [0x10, 0xDA] (.adcRm8R8 (.reg .dl) .bl)
      && decodes [0x11, 0x33] (.adcRm16R16 (.mem (.based .bpDi .none)) .si)
      && decodes [0x12, 0x4C, 0x84] (.adcR8Rm8 .cl (.mem (.based .si (.d8 0x84))))
      && decodes [0x13, 0xA5, 0x15, 0xF5] (.adcR16Rm16 .sp (.mem (.based .di (.d16 0xF515))))) = true := by decide

/-- Rows 21 to 40 of the table. -/
theorem test_decode_2 :
    (decodes [0x14, 0x9A] (.adcAlIb 0x9A)
      && decodes [0x15, 0x78, 0x56] (.adcAxIw 0x5678)
      && decodes [0x16] (.pushSs)
      && decodes [0x17] (.popSs)
      && decodes [0x18, 0xFF] (.sbbRm8R8 (.reg .bh) .bh)
      && decodes [0x19, 0x10] (.sbbRm16R16 (.mem (.based .bxSi .none)) .dx)
      && decodes [0x1A, 0x69, 0x81] (.sbbR8Rm8 .ch (.mem (.based .bxDi (.d8 0x81))))
      && decodes [0x1B, 0x82, 0x12, 0xF2] (.sbbR16Rm16 .ax (.mem (.based .bpSi (.d16 0xF212))))
      && decodes [0x1C, 0x9A] (.sbbAlIb 0x9A)
      && decodes [0x1D, 0x78, 0x56] (.sbbAxIw 0x5678)
      && decodes [0x1E] (.pushDs)
      && decodes [0x1F] (.popDs)
      && decodes [0x20, 0xDC] (.andRm8R8 (.reg .ah) .bl)
      && decodes [0x21, 0x35] (.andRm16R16 (.mem (.based .di .none)) .si)
      && decodes [0x22, 0x4E, 0x86] (.andR8Rm8 .cl (.mem (.based .bp (.d8 0x86))))
      && decodes [0x23, 0xA7, 0x17, 0xF7] (.andR16Rm16 .sp (.mem (.based .bx (.d16 0xF717))))
      && decodes [0x24, 0x9A] (.andAlIb 0x9A)
      && decodes [0x25, 0x78, 0x56] (.andAxIw 0x5678)
      && decodes [0x26] (.prefixEs)
      && decodes [0x27] (.unimpl27)) = true := by decide

/-- Rows 41 to 60 of the table. -/
theorem test_decode_3 :
    (decodes [0x28, 0xF9] (.subRm8R8 (.reg .cl) .bh)
      && decodes [0x29, 0x12] (.subRm16R16 (.mem (.based .bpSi .none)) .dx)
      && decodes [0x2A, 0x6B, 0x83] (.subR8Rm8 .ch (.mem (.based .bpDi (.d8 0x83))))
      && decodes [0x2B, 0x84, 0x14, 0xF4] (.subR16Rm16 .ax (.mem (.based .si (.d16 0xF414))))
      && decodes [0x2C, 0x9A] (.subAlIb 0x9A)
      && decodes [0x2D, 0x78, 0x56] (.subAxIw 0x5678)
      && decodes [0x2E] (.prefixCs)
      && decodes [0x2F] (.unimpl2F)
      && decodes [0x30, 0xDE] (.xorRm8R8 (.reg .dh) .bl)
      && decodes [0x31, 0x37] (.xorRm16R16 (.mem (.based .bx .none)) .si)
      && decodes [0x32, 0x48, 0x80] (.xorR8Rm8 .cl (.mem (.based .bxSi (.d8 0x80))))
      && decodes [0x33, 0xA1, 0x11, 0xF1] (.xorR16Rm16 .sp (.mem (.based .bxDi (.d16 0xF111))))
      && decodes [0x34, 0x9A] (.xorAlIb 0x9A)
      && decodes [0x35, 0x78, 0x56] (.xorAxIw 0x5678)
      && decodes [0x36] (.prefixSs)
      && decodes [0x37] (.unimpl37)
      && decodes [0x38, 0xFB] (.cmpRm8R8 (.reg .bl) .bh)
      && decodes [0x39, 0x14] (.cmpRm16R16 (.mem (.based .si .none)) .dx)
      && decodes [0x3A, 0x6D, 0x85] (.cmpR8Rm8 .ch (.mem (.based .di (.d8 0x85))))
      && decodes [0x3B, 0x86, 0x16, 0xF6] (.cmpR16Rm16 .ax (.mem (.based .bp (.d16 0xF616))))) = true := by decide

/-- Rows 61 to 80 of the table. -/
theorem test_decode_4 :
    (decodes [0x3C, 0x9A] (.cmpAlIb 0x9A)
      && decodes [0x3D, 0x78, 0x56] (.cmpAxIw 0x5678)
      && decodes [0x3E] (.prefixDs)
      && decodes [0x3F] (.unimpl3F)
      && decodes [0x43] (.incR16 .bx)
      && decodes [0x4E] (.decR16 .si)
      && decodes [0x51] (.pushR16 .cx)
      && decodes [0x5C] (.popR16 .sp)
      && decodes [0x60] (.unimpl60)
      && decodes [0x61] (.unimpl61)
      && decodes [0x62] (.unimpl62)
      && decodes [0x63] (.unimpl63)
      && decodes [0x64] (.unimpl64)
      && decodes [0x65] (.unimpl65)
      && decodes [0x66] (.unimpl66)
      && decodes [0x67] (.unimpl67)
      && decodes [0x68] (.unimpl68)
      && decodes [0x69] (.unimpl69)
      && decodes [0x6A] (.unimpl6A)
      && decodes [0x6B] (.unimpl6B)) = true := by decide

/-- Rows 81 to 100 of the table. -/
theorem test_decode_5 :
    (decodes [0x6C] (.unimpl6C)
      && decodes [0x6D] (.unimpl6D)
      && decodes [0x6E] (.unimpl6E)
      && decodes [0x6F] (.unimpl6F)
      && decodes [0x70, 0x9A] (.jo 0x9A)
      && decodes [0x71, 0x9A] (.jno 0x9A)
      && decodes [0x72, 0x9A] (.jb 0x9A)
      && decodes [0x73, 0x9A] (.jnb 0x9A)
      && decodes [0x74, 0x9A] (.jz 0x9A)
      && decodes [0x75, 0x9A] (.jnz 0x9A)
      && decodes [0x76, 0x9A] (.jbe 0x9A)
      && decodes [0x77, 0x9A] (.ja 0x9A)
      && decodes [0x78, 0x9A] (.js 0x9A)
      && decodes [0x79, 0x9A] (.jns 0x9A)
      && decodes [0x7A, 0x9A] (.jpe 0x9A)
      && decodes [0x7B, 0x9A] (.jpo 0x9A)
      && decodes [0x7C, 0x9A] (.jl 0x9A)
      && decodes [0x7D, 0x9A] (.jge 0x9A)
      && decodes [0x7E, 0x9A] (.jle 0x9A)
      && decodes [0x7F, 0x9A] (.jg 0x9A)) = true := by decide

/-- Rows 101 to 120 of the table. -/
theorem test_decode_6 :
    (decodes [0x80, 0xC0, 0x97] (.addRm8Ib (.reg .al) 0x97)
      && decodes [0x80, 0x09, 0x92] (.orRm8Ib (.mem (.based .bxDi .none)) 0x92)
      && decodes [0x80, 0x52, 0x82, 0x95] (.adcRm8Ib (.mem (.based .bpSi (.d8 0x82))) 0x95)
      && decodes [0x80, 0x9B, 0x13, 0xF3, 0x90] (.sbbRm8Ib (.mem (.based .bpDi (.d16 0xF313))) 0x90)
      && decodes [0x80, 0xE5, 0x93] (.andRm8Ib (.reg .ch) 0x93)
      && decodes [0x80, 0x2E, 0x34, 0x12, 0x96] (.subRm8Ib (.mem (.direct 0x1234)) 0x96)
      && decodes [0x80, 0x77, 0x87, 0x91] (.xorRm8Ib (.mem (.based .bx (.d8 0x87))) 0x91)
      && decodes [0x80, 0xB8, 0x10, 0xF0, 0x94] (.cmpRm8Ib (.mem (.based .bxSi (.d16 0xF010))) 0x94)
      && decodes [0x81, 0xC2, 0xCD, 0xAB] (.addRm16Iw (.reg .dx) 0xABCD)
      && decodes [0x81, 0x0B, 0xCD, 0xAB] (.orRm16Iw (.mem (.based .bpDi .none)) 0xABCD)
      && decodes [0x81, 0x54, 0x84, 0xCD, 0xAB] (.adcRm16Iw (.mem (.based .si (.d8 0x84))) 0xABCD)
      && decodes [0x81, 0x9D, 0x15, 0xF5, 0xCD, 0xAB] (.sbbRm16Iw (.mem (.based .di (.d16 0xF515))) 0xABCD)
      && decodes [0x81, 0xE7, 0xCD, 0xAB] (.andRm16Iw (.reg .di) 0xABCD)
      && decodes [0x81, 0x28, 0xCD, 0xAB] (.subRm16Iw (.mem (.based .bxSi .none)) 0xABCD)
      && decodes [0x81, 0x71, 0x81, 0xCD, 0xAB] (.xorRm16Iw (.mem (.based .bxDi (.d8 0x81))) 0xABCD)
      && decodes [0x81, 0xBA, 0x12, 0xF2, 0xCD, 0xAB] (.cmpRm16Iw (.mem (.based .bpSi (.d16 0xF212))) 0xABCD)
      && decodes [0x82, 0xC4, 0x97] (.addRm8Ib82 (.reg .ah) 0x97)
      && decodes [0x82, 0x0D, 0x92] (.orRm8Ib82 (.mem (.based .di .none)) 0x92)
      && decodes [0x82, 0x56, 0x86, 0x95] (.adcRm8Ib82 (.mem (.based .bp (.d8 0x86))) 0x95)
      && decodes [0x82, 0x9F, 0x17, 0xF7, 0x90] (.sbbRm8Ib82 (.mem (.based .bx (.d16 0xF717))) 0x90)) = true := by decide

/-- Rows 121 to 140 of the table. -/
theorem test_decode_7 :
    (decodes [0x82, 0xE1, 0x93] (.andRm8Ib82 (.reg .cl) 0x93)
      && decodes [0x82, 0x2A, 0x96] (.subRm8Ib82 (.mem (.based .bpSi .none)) 0x96)
      && decodes [0x82, 0x73, 0x83, 0x91] (.xorRm8Ib82 (.mem (.based .bpDi (.d8 0x83))) 0x91)
      && decodes [0x82, 0xBC, 0x14, 0xF4, 0x94] (.cmpRm8Ib82 (.mem (.based .si (.d16 0xF414))) 0x94)
      && decodes [0x83, 0xC6, 0x97] (.addRm16Sext (.reg .si) 0x97)
      && decodes [0x83, 0x0F, 0x92] (.orRm16Sext (.mem (.based .bx .none)) 0x92)
      && decodes [0x83, 0x50, 0x80, 0x95] (.adcRm16Sext (.mem (.based .bxSi (.d8 0x80))) 0x95)
      && decodes [0x83, 0x99, 0x11, 0xF1, 0x90] (.sbbRm16Sext (.mem (.based .bxDi (.d16 0xF111))) 0x90)
      && decodes [0x83, 0xE3, 0x93] (.andRm16Sext (.reg .bx) 0x93)
      && decodes [0x83, 0x2C, 0x96] (.subRm16Sext (.mem (.based .si .none)) 0x96)
      && decodes [0x83, 0x75, 0x85, 0x91] (.xorRm16Sext (.mem (.based .di (.d8 0x85))) 0x91)
      && decodes [0x83, 0xBE, 0x16, 0xF6, 0x94] (.cmpRm16Sext (.mem (.based .bp (.d16 0xF616))) 0x94)
      && decodes [0x84, 0xF8] (.testRm8R8 (.reg .al) .bh)
      && decodes [0x85, 0x11] (.testRm16R16 (.mem (.based .bxDi .none)) .dx)
      && decodes [0x86, 0x6A, 0x82] (.xchgRm8R8 (.mem (.based .bpSi (.d8 0x82))) .ch)
      && decodes [0x87, 0x83, 0x13, 0xF3] (.xchgRm16R16 (.mem (.based .bpDi (.d16 0xF313))) .ax)
      && decodes [0x88, 0xDD] (.movRm8R8 (.reg .ch) .bl)
      && decodes [0x89, 0x36, 0x34, 0x12] (.movRm16R16 (.mem (.direct 0x1234)) .si)
      && decodes [0x8A, 0x4F, 0x87] (.movR8Rm8 .cl (.mem (.based .bx (.d8 0x87))))
      && decodes [0x8B, 0xA0, 0x10, 0xF0] (.movR16Rm16 .sp (.mem (.based .bxSi (.d16 0xF010))))) = true := by decide

/-- Rows 141 to 160 of the table. -/
theorem test_decode_8 :
    (decodes [0x8C, 0xDA] (.movRm16Sreg (.reg .dx) .ds)
      && decodes [0x8C, 0xA9] (.unimpl8CReg4to7 2 1 1)
      && decodes [0x8D, 0x13] (.leaR16M .dx (.based .bpDi .none))
      && decodes [0x8D, 0xE9] (.unimpl8DMod3 5 1)
      && decodes [0x8E, 0x4C, 0x84] (.movSregRm16 .cs (.mem (.based .si (.d8 0x84))))
      && decodes [0x8E, 0xA9] (.unimpl8EReg4to7 2 1 1)
      && decodes [0x8F, 0x85, 0x15, 0xF5] (.popRm16 (.mem (.based .di (.d16 0xF515))))
      && decodes [0x8F, 0x89] (.unimpl8FSub1 2 1)
      && decodes [0x8F, 0x91] (.unimpl8FSub2 2 1)
      && decodes [0x8F, 0x99] (.unimpl8FSub3 2 1)
      && decodes [0x8F, 0xA1] (.unimpl8FSub4 2 1)
      && decodes [0x8F, 0xA9] (.unimpl8FSub5 2 1)
      && decodes [0x8F, 0xB1] (.unimpl8FSub6 2 1)
      && decodes [0x8F, 0xB9] (.unimpl8FSub7 2 1)
      && decodes [0x90] (.xchgAxR16 .ax)
      && decodes [0x98] (.unimpl98)
      && decodes [0x99] (.unimpl99)
      && decodes [0x9A, 0x78, 0x56, 0xCD, 0xAB] (.callPtr 0x5678 0xABCD)
      && decodes [0x9B] (.unimpl9B)
      && decodes [0x9C] (.pushf)) = true := by decide

/-- Rows 161 to 180 of the table. -/
theorem test_decode_9 :
    (decodes [0x9D] (.popf)
      && decodes [0x9E] (.unimpl9E)
      && decodes [0x9F] (.unimpl9F)
      && decodes [0xA0, 0x78, 0x56] (.movAlMoffs 0x5678)
      && decodes [0xA1, 0x78, 0x56] (.movAxMoffs 0x5678)
      && decodes [0xA2, 0x78, 0x56] (.movMoffsAl 0x5678)
      && decodes [0xA3, 0x78, 0x56] (.movMoffsAx 0x5678)
      && decodes [0xA4] (.movsb)
      && decodes [0xA5] (.movsw)
      && decodes [0xA6] (.cmpsb)
      && decodes [0xA7] (.cmpsw)
      && decodes [0xA8, 0x9A] (.testAlIb 0x9A)
      && decodes [0xA9, 0x78, 0x56] (.testAxIw 0x5678)
      && decodes [0xAA] (.stosb)
      && decodes [0xAB] (.stosw)
      && decodes [0xAC] (.lodsb)
      && decodes [0xAD] (.lodsw)
      && decodes [0xAE] (.scasb)
      && decodes [0xAF] (.scasw)
      && decodes [0xB3, 0x9A] (.movR8Ib .bl 0x9A)) = true := by decide

/-- Rows 181 to 200 of the table. -/
theorem test_decode_10 :
    (decodes [0xBE, 0x78, 0x56] (.movR16Iw .si 0x5678)
      && decodes [0xC0] (.unimplC0)
      && decodes [0xC1] (.unimplC1)
      && decodes [0xC2, 0x78, 0x56] (.retIw 0x5678)
      && decodes [0xC3] (.ret)
      && decodes [0xC4, 0x08] (.lesR16M .cx (.based .bxSi .none))
      && decodes [0xC4, 0xE9] (.unimplC4Mod3 5 1)
      && decodes [0xC5, 0x61, 0x81] (.ldsR16M .sp (.based .bxDi (.d8 0x81)))
      && decodes [0xC5, 0xE9] (.unimplC5Mod3 5 1)
      && decodes [0xC6, 0x82, 0x12, 0xF2, 0x97] (.movRm8Ib (.mem (.based .bpSi (.d16 0xF212))) 0x97)
      && decodes [0xC6, 0x89] (.unimplC6Sub1 2 1)
      && decodes [0xC6, 0x91] (.unimplC6Sub2 2 1)
      && decodes [0xC6, 0x99] (.unimplC6Sub3 2 1)
      && decodes [0xC6, 0xA1] (.unimplC6Sub4 2 1)
      && decodes [0xC6, 0xA9] (.unimplC6Sub5 2 1)
      && decodes [0xC6, 0xB1] (.unimplC6Sub6 2 1)
      && decodes [0xC6, 0xB9] (.unimplC6Sub7 2 1)
      && decodes [0xC7, 0xC4, 0xCD, 0xAB] (.movRm16Iw (.reg .sp) 0xABCD)
      && decodes [0xC7, 0x89] (.unimplC7Sub1 2 1)
      && decodes [0xC7, 0x91] (.unimplC7Sub2 2 1)) = true := by decide

/-- Rows 201 to 220 of the table. -/
theorem test_decode_11 :
    (decodes [0xC7, 0x99] (.unimplC7Sub3 2 1)
      && decodes [0xC7, 0xA1] (.unimplC7Sub4 2 1)
      && decodes [0xC7, 0xA9] (.unimplC7Sub5 2 1)
      && decodes [0xC7, 0xB1] (.unimplC7Sub6 2 1)
      && decodes [0xC7, 0xB9] (.unimplC7Sub7 2 1)
      && decodes [0xC8] (.unimplC8)
      && decodes [0xC9] (.unimplC9)
      && decodes [0xCA, 0x78, 0x56] (.retfIw 0x5678)
      && decodes [0xCB] (.retf)
      && decodes [0xCC] (.int3)
      && decodes [0xCD, 0x9A] (.intIb 0x9A)
      && decodes [0xCE] (.unimplCE)
      && decodes [0xCF] (.iret)
      && decodes [0xD0, 0x05] (.rolRm8One (.mem (.based .di .none)))
      && decodes [0xD0, 0x4E, 0x86] (.rorRm8One (.mem (.based .bp (.d8 0x86))))
      && decodes [0xD0, 0x97, 0x17, 0xF7] (.rclRm8One (.mem (.based .bx (.d16 0xF717))))
      && decodes [0xD0, 0xD9] (.rcrRm8One (.reg .cl))
      && decodes [0xD0, 0x22] (.shlRm8One (.mem (.based .bpSi .none)))
      && decodes [0xD0, 0x6B, 0x83] (.shrRm8One (.mem (.based .bpDi (.d8 0x83))))
      && decodes [0xD0, 0xB1] (.unimplD0Sub6 2 1)) = true := by decide

/-- Rows 221 to 240 of the table. -/
theorem test_decode_12 :
    (decodes [0xD0, 0xBC, 0x14, 0xF4] (.sarRm8One (.mem (.based .si (.d16 0xF414))))
      && decodes [0xD1, 0xC6] (.rolRm16One (.reg .si))
      && decodes [0xD1, 0x0F] (.rorRm16One (.mem (.based .bx .none)))
      && decodes [0xD1, 0x50, 0x80] (.rclRm16One (.mem (.based .bxSi (.d8 0x80))))
      && decodes [0xD1, 0x99, 0x11, 0xF1] (.rcrRm16One (.mem (.based .bxDi (.d16 0xF111))))
      && decodes [0xD1, 0xE3] (.shlRm16One (.reg .bx))
      && decodes [0xD1, 0x2C] (.shrRm16One (.mem (.based .si .none)))
      && decodes [0xD1, 0xB1] (.unimplD1Sub6 2 1)
      && decodes [0xD1, 0x7D, 0x85] (.sarRm16One (.mem (.based .di (.d8 0x85))))
      && decodes [0xD2, 0x86, 0x16, 0xF6] (.rolRm8Cl (.mem (.based .bp (.d16 0xF616))))
      && decodes [0xD2, 0xC8] (.rorRm8Cl (.reg .al))
      && decodes [0xD2, 0x11] (.rclRm8Cl (.mem (.based .bxDi .none)))
      && decodes [0xD2, 0x5A, 0x82] (.rcrRm8Cl (.mem (.based .bpSi (.d8 0x82))))
      && decodes [0xD2, 0xA3, 0x13, 0xF3] (.shlRm8Cl (.mem (.based .bpDi (.d16 0xF313))))
      && decodes [0xD2, 0xED] (.shrRm8Cl (.reg .ch))
      && decodes [0xD2, 0xB1] (.unimplD2Sub6 2 1)
      && decodes [0xD2, 0x3E, 0x34, 0x12] (.sarRm8Cl (.mem (.direct 0x1234)))
      && decodes [0xD3, 0x47, 0x87] (.rolRm16Cl (.mem (.based .bx (.d8 0x87))))
      && decodes [0xD3, 0x88, 0x10, 0xF0] (.rorRm16Cl (.mem (.based .bxSi (.d16 0xF010))))
      && decodes [0xD3, 0xD2] (.rclRm16Cl (.reg .dx))) = true := by decide

/-- Rows 241 to 260 of the table. -/
theorem test_decode_13 :
    (decodes [0xD3, 0x1B] (.rcrRm16Cl (.mem (.based .bpDi .none)))
      && decodes [0xD3, 0x64, 0x84] (.shlRm16Cl (.mem (.based .si (.d8 0x84))))
      && decodes [0xD3, 0xAD, 0x15, 0xF5] (.shrRm16Cl (.mem (.based .di (.d16 0xF515))))
      && decodes [0xD3, 0xB1] (.unimplD3Sub6 2 1)
      && decodes [0xD3, 0xFF] (.sarRm16Cl (.reg .di))
      && decodes [0xD4] (.unimplD4)
      && decodes [0xD5] (.unimplD5)
      && decodes [0xD6] (.unimplD6)
      && decodes [0xD7] (.unimplD7)
      && decodes [0xD8] (.unimplD8)
      && decodes [0xD9] (.unimplD9)
      && decodes [0xDA] (.unimplDA)
      && decodes [0xDB] (.unimplDB)
      && decodes [0xDC] (.unimplDC)
      && decodes [0xDD] (.unimplDD)
      && decodes [0xDE] (.unimplDE)
      && decodes [0xDF] (.unimplDF)
      && decodes [0xE0, 0x9A] (.loopne 0x9A)
      && decodes [0xE1, 0x9A] (.loope 0x9A)
      && decodes [0xE2, 0x9A] (.loop 0x9A)) = true := by decide

/-- Rows 261 to 280 of the table. -/
theorem test_decode_14 :
    (decodes [0xE3, 0x9A] (.jcxz 0x9A)
      && decodes [0xE4] (.unimplE4)
      && decodes [0xE5] (.unimplE5)
      && decodes [0xE6] (.unimplE6)
      && decodes [0xE7] (.unimplE7)
      && decodes [0xE8, 0x78, 0x56] (.callRel16 0x5678)
      && decodes [0xE9, 0x78, 0x56] (.jmpRel16 0x5678)
      && decodes [0xEA, 0x78, 0x56, 0xCD, 0xAB] (.jmpPtr 0x5678 0xABCD)
      && decodes [0xEB, 0x9A] (.jmpRel8 0x9A)
      && decodes [0xEC] (.unimplEC)
      && decodes [0xED] (.unimplED)
      && decodes [0xEE] (.unimplEE)
      && decodes [0xEF] (.unimplEF)
      && decodes [0xF0] (.unimplF0)
      && decodes [0xF1] (.unimplF1)
      && decodes [0xF2] (.prefixRepnz)
      && decodes [0xF3] (.prefixRep)
      && decodes [0xF4] (.unimplF4)
      && decodes [0xF5] (.cmc)
      && decodes [0xF6, 0x00, 0x92] (.testRm8Ib (.mem (.based .bxSi .none)) 0x92)) = true := by decide

/-- Rows 281 to 300 of the table. -/
theorem test_decode_15 :
    (decodes [0xF6, 0x89] (.unimplF6Sub1 2 1)
      && decodes [0xF6, 0x51, 0x81] (.notRm8 (.mem (.based .bxDi (.d8 0x81))))
      && decodes [0xF6, 0x99] (.unimplF6Sub3 2 1)
      && decodes [0xF6, 0xA2, 0x12, 0xF2] (.mulRm8 (.mem (.based .bpSi (.d16 0xF212))))
      && decodes [0xF6, 0xA9] (.unimplF6Sub5 2 1)
      && decodes [0xF6, 0xF4] (.divRm8 (.reg .ah))
      && decodes [0xF6, 0xB9] (.unimplF6Sub7 2 1)
      && decodes [0xF7, 0x05, 0xCD, 0xAB] (.testRm16Iw (.mem (.based .di .none)) 0xABCD)
      && decodes [0xF7, 0x89] (.unimplF7Sub1 2 1)
      && decodes [0xF7, 0x56, 0x86] (.notRm16 (.mem (.based .bp (.d8 0x86))))
      && decodes [0xF7, 0x99] (.unimplF7Sub3 2 1)
      && decodes [0xF7, 0xA7, 0x17, 0xF7] (.mulRm16 (.mem (.based .bx (.d16 0xF717))))
      && decodes [0xF7, 0xA9] (.unimplF7Sub5 2 1)
      && decodes [0xF7, 0xF1] (.divRm16 (.reg .cx))
      && decodes [0xF7, 0xB9] (.unimplF7Sub7 2 1)
      && decodes [0xF8] (.clc)
      && decodes [0xF9] (.stc)
      && decodes [0xFA] (.cli)
      && decodes [0xFB] (.sti)
      && decodes [0xFC] (.cld)) = true := by decide

/-- Rows 301 to 319 of the table. -/
theorem test_decode_16 :
    (decodes [0xFD] (.std)
      && decodes [0xFE, 0x02] (.incRm8 (.mem (.based .bpSi .none)))
      && decodes [0xFE, 0x4B, 0x83] (.decRm8 (.mem (.based .bpDi (.d8 0x83))))
      && decodes [0xFE, 0x91] (.unimplFESub2 2 1)
      && decodes [0xFE, 0x99] (.unimplFESub3 2 1)
      && decodes [0xFE, 0xA1] (.unimplFESub4 2 1)
      && decodes [0xFE, 0xA9] (.unimplFESub5 2 1)
      && decodes [0xFE, 0xB1] (.unimplFESub6 2 1)
      && decodes [0xFE, 0xB9] (.unimplFESub7 2 1)
      && decodes [0xFF, 0x84, 0x14, 0xF4] (.incRm16 (.mem (.based .si (.d16 0xF414))))
      && decodes [0xFF, 0xCE] (.decRm16 (.reg .si))
      && decodes [0xFF, 0x17] (.callRm16 (.mem (.based .bx .none)))
      && decodes [0xFF, 0x58, 0x80] (.callM16 (.based .bxSi (.d8 0x80)))
      && decodes [0xFF, 0xA1, 0x11, 0xF1] (.jmpRm16 (.mem (.based .bxDi (.d16 0xF111))))
      && decodes [0xFF, 0x2C] (.jmpM16 (.based .si .none))
      && decodes [0xFF, 0x75, 0x85] (.pushRm16 (.mem (.based .di (.d8 0x85))))
      && decodes [0xFF, 0xB9] (.unimplFFSub7 2 1)
      && decodes [0xFF, 0xD9] (.unimplFFSub3Mod3 1)
      && decodes [0xFF, 0xE9] (.unimplFFSub5Mod3 1)) = true := by decide

/-! ## One step on small states (95_test_vectors.md, part 2; the expected values are the spec's) -/

/-- A running machine with these registers, flags and bytes of memory, and the instruction at CS:IP. -/
def at_ (g : Regs) (f : Flags) (m : List (Phys × Byte)) (bs : List Byte) : State :=
  { State.reset with
    regs := g
    flags := f
    mem := (Memory.writeAll [] m).writeBytes g.CS g.IP bs
    run_state := .running
    booted := true
    requested_state := .running }

/-- One step gives a next state, and it is as `p` says. -/
def after (s : State) (p : State → Bool) : Bool :=
  match step s with
  | .next t => p t
  | _ => false

/-- All flags set. -/
def allSet : Flags := { CF := true, PF := true, AF := true, ZF := true, SF := true, OF := true, DF := true, IF := true, TF := true }

/-- Vector A3 of 95_test_vectors.md. -/
theorem test_addRm8R8 :
    after (at_ { Regs.zero with AX := 0x80, BX := 0x80, CS := 0x6000, IP := 0x100 } Flags.clear [] [0x00, 0xD8])
      (fun t =>
        t.flags.CF && t.flags.PF && !t.flags.AF && t.flags.ZF && !t.flags.SF && t.flags.OF &&
        t.regs.AX == 0x0 && t.regs.IP == 0x102) = true := by decide

/-- Vector A1 of 95_test_vectors.md. -/
theorem test_addRm16R16 :
    after (at_ { Regs.zero with AX := 0x7FFF, BX := 0x1, CS := 0x6000, IP := 0x100 } Flags.clear [] [0x01, 0xD8])
      (fun t =>
        !t.flags.CF && t.flags.PF && t.flags.AF && !t.flags.ZF && t.flags.SF && t.flags.OF &&
        t.regs.AX == 0x8000 && t.regs.IP == 0x102) = true := by decide

/-- Vector A2i of 95_test_vectors.md. -/
theorem test_addAlIb :
    after (at_ { Regs.zero with AX := 0xFF, CS := 0x6000, IP := 0x100 } Flags.clear [] [0x04, 0x01])
      (fun t =>
        t.flags.CF && t.flags.PF && t.flags.AF && t.flags.ZF && !t.flags.SF && !t.flags.OF &&
        t.regs.AX == 0x0 && t.regs.IP == 0x102) = true := by decide

/-- Vector A1i of 95_test_vectors.md. -/
theorem test_addAxIw :
    after (at_ { Regs.zero with AX := 0x7FFF, CS := 0x6000, IP := 0x100 } Flags.clear [] [0x05, 0x01, 0x00])
      (fun t =>
        !t.flags.CF && t.flags.PF && t.flags.AF && !t.flags.ZF && t.flags.SF && t.flags.OF &&
        t.regs.AX == 0x8000 && t.regs.IP == 0x103) = true := by decide

/-- Vector L12 of 95_test_vectors.md. -/
theorem test_orRm8R8 :
    after (at_ { Regs.zero with AX := 0x5A, CS := 0x6000, IP := 0x100 } Flags.clear [] [0x08, 0xC0])
      (fun t =>
        t.regs.AX == 0x5A && !t.flags.ZF && !t.flags.SF && t.flags.PF && !t.flags.CF && !t.flags.OF &&
        t.regs.IP == 0x102) = true := by decide

/-- Vector L2 of 95_test_vectors.md. -/
theorem test_orAxIw :
    after (at_ { Regs.zero with AX := 0x8000, CS := 0x6000, IP := 0x100 } Flags.clear [] [0x0D, 0x01, 0x00])
      (fun t =>
        t.regs.AX == 0x8001 && !t.flags.ZF && t.flags.SF && !t.flags.PF && !t.flags.CF && !t.flags.OF &&
        t.regs.IP == 0x103) = true := by decide

/-- Vector A9 of 95_test_vectors.md. -/
theorem test_adcRm8R8 :
    after (at_ { Regs.zero with AX := 0x7F, BX := 0x0, CS := 0x6000, IP := 0x100 } { Flags.clear with CF := true } [] [0x10, 0xD8])
      (fun t =>
        !t.flags.CF && !t.flags.PF && t.flags.AF && !t.flags.ZF && t.flags.SF && t.flags.OF &&
        t.regs.AX == 0x80 && t.regs.IP == 0x102) = true := by decide

/-- Vector A10 of 95_test_vectors.md. -/
theorem test_adcRm16R16 :
    after (at_ { Regs.zero with AX := 0xFFFF, BX := 0xFFFF, CS := 0x6000, IP := 0x100 } { Flags.clear with CF := true } [] [0x11, 0xD8])
      (fun t =>
        t.flags.CF && t.flags.PF && t.flags.AF && !t.flags.ZF && t.flags.SF && !t.flags.OF &&
        t.regs.AX == 0xFFFF && t.regs.IP == 0x102) = true := by decide

/-- Vector A8i of 95_test_vectors.md. -/
theorem test_adcAlIb :
    after (at_ { Regs.zero with AX := 0xFF, CS := 0x6000, IP := 0x100 } { Flags.clear with CF := true } [] [0x14, 0x00])
      (fun t =>
        t.flags.CF && t.flags.PF && t.flags.AF && t.flags.ZF && !t.flags.SF && !t.flags.OF &&
        t.regs.AX == 0x0 && t.regs.IP == 0x102) = true := by decide

/-- Vector A10i of 95_test_vectors.md. -/
theorem test_adcAxIw :
    after (at_ { Regs.zero with AX := 0xFFFF, CS := 0x6000, IP := 0x100 } { Flags.clear with CF := true } [] [0x15, 0xFF, 0xFF])
      (fun t =>
        t.flags.CF && t.flags.PF && t.flags.AF && !t.flags.ZF && t.flags.SF && !t.flags.OF &&
        t.regs.AX == 0xFFFF && t.regs.IP == 0x103) = true := by decide

/-- From the rows of 95_test_vectors.md, part 2. -/
theorem test_popSs :
    after (at_ { Regs.zero with SP := 0x10, CS := 0x6000, SS := 0x2000, IP := 0x100 } Flags.clear [(0x20010, 0x34), (0x20011, 0x12)] [0x17])
      (fun t =>
        t.regs.SS == 0x1234 && t.regs.SP == 0x12 && t.regs.IP == 0x101) = true := by decide

/-- Vector A18 of 95_test_vectors.md. -/
theorem test_sbbRm8R8 :
    after (at_ { Regs.zero with AX := 0x0, BX := 0xFF, CS := 0x6000, IP := 0x100 } { Flags.clear with CF := true } [] [0x18, 0xD8])
      (fun t =>
        t.flags.CF && t.flags.PF && t.flags.AF && t.flags.ZF && !t.flags.SF && !t.flags.OF &&
        t.regs.AX == 0x0 && t.regs.IP == 0x102) = true := by decide

/-- Vector A17i of 95_test_vectors.md. -/
theorem test_sbbAlIb :
    after (at_ { Regs.zero with AX := 0x0, CS := 0x6000, IP := 0x100 } { Flags.clear with CF := true } [] [0x1C, 0x00])
      (fun t =>
        t.flags.CF && t.flags.PF && t.flags.AF && !t.flags.ZF && t.flags.SF && !t.flags.OF &&
        t.regs.AX == 0xFF && t.regs.IP == 0x102) = true := by decide

/-- Vector L1 of 95_test_vectors.md. -/
theorem test_andAlIb :
    after (at_ { Regs.zero with AX := 0xF0, CS := 0x6000, IP := 0x100 } Flags.clear [] [0x24, 0x3C])
      (fun t =>
        t.regs.AX == 0x30 && !t.flags.ZF && !t.flags.SF && t.flags.PF && !t.flags.CF && !t.flags.OF &&
        t.regs.IP == 0x102) = true := by decide

/-- Vector A14 of 95_test_vectors.md. -/
theorem test_subRm8R8 :
    after (at_ { Regs.zero with AX := 0x7F, BX := 0xFF, CS := 0x6000, IP := 0x100 } Flags.clear [] [0x28, 0xD8])
      (fun t =>
        t.flags.CF && !t.flags.PF && !t.flags.AF && !t.flags.ZF && t.flags.SF && t.flags.OF &&
        t.regs.AX == 0x80 && t.regs.IP == 0x102) = true := by decide

/-- Vector A12 of 95_test_vectors.md. -/
theorem test_subRm16R16 :
    after (at_ { Regs.zero with AX := 0x0, BX := 0x1, CS := 0x6000, IP := 0x100 } Flags.clear [] [0x29, 0xD8])
      (fun t =>
        t.flags.CF && t.flags.PF && t.flags.AF && !t.flags.ZF && t.flags.SF && !t.flags.OF &&
        t.regs.AX == 0xFFFF && t.regs.IP == 0x102) = true := by decide

/-- Vector A13i of 95_test_vectors.md. -/
theorem test_subAlIb :
    after (at_ { Regs.zero with AX := 0x80, CS := 0x6000, IP := 0x100 } Flags.clear [] [0x2C, 0x01])
      (fun t =>
        !t.flags.CF && !t.flags.PF && t.flags.AF && !t.flags.ZF && !t.flags.SF && t.flags.OF &&
        t.regs.AX == 0x7F && t.regs.IP == 0x102) = true := by decide

/-- Vector A12i of 95_test_vectors.md. -/
theorem test_subAxIw :
    after (at_ { Regs.zero with AX := 0x0, CS := 0x6000, IP := 0x100 } Flags.clear [] [0x2D, 0x01, 0x00])
      (fun t =>
        t.flags.CF && t.flags.PF && t.flags.AF && !t.flags.ZF && t.flags.SF && !t.flags.OF &&
        t.regs.AX == 0xFFFF && t.regs.IP == 0x103) = true := by decide

/-- Vector L4 of 95_test_vectors.md. -/
theorem test_xorRm8R8 :
    after (at_ { Regs.zero with AX := 0xFF, BX := 0xF, CS := 0x6000, IP := 0x100 } Flags.clear [] [0x30, 0xD8])
      (fun t =>
        t.regs.AX == 0xF0 && !t.flags.ZF && t.flags.SF && t.flags.PF && !t.flags.CF && !t.flags.OF &&
        t.regs.IP == 0x102) = true := by decide

/-- Vector L3 of 95_test_vectors.md. -/
theorem test_xorRm16R16 :
    after (at_ { Regs.zero with AX := 0x1234, CS := 0x6000, IP := 0x100 } { Flags.clear with CF := true, OF := true } [] [0x31, 0xC0])
      (fun t =>
        t.regs.AX == 0x0 && t.flags.ZF && !t.flags.SF && t.flags.PF && !t.flags.CF && !t.flags.OF &&
        t.regs.IP == 0x102) = true := by decide

/-- Vector A20 of 95_test_vectors.md. -/
theorem test_cmpRm8R8 :
    after (at_ { Regs.zero with AX := 0x1, BX := 0x2, CS := 0x6000, IP := 0x100 } Flags.clear [] [0x38, 0xD8])
      (fun t =>
        t.flags.CF && t.flags.PF && t.flags.AF && !t.flags.ZF && t.flags.SF && !t.flags.OF &&
        t.regs.AX == 0x1 && t.regs.IP == 0x102) = true := by decide

/-- Vector A21 of 95_test_vectors.md. -/
theorem test_cmpRm16R16 :
    after (at_ { Regs.zero with AX := 0xFFFF, BX := 0x1, CS := 0x6000, IP := 0x100 } Flags.clear [] [0x39, 0xD8])
      (fun t =>
        !t.flags.CF && !t.flags.PF && !t.flags.AF && !t.flags.ZF && t.flags.SF && !t.flags.OF &&
        t.regs.AX == 0xFFFF && t.regs.IP == 0x102) = true := by decide

/-- Vector A20i of 95_test_vectors.md. -/
theorem test_cmpAlIb :
    after (at_ { Regs.zero with AX := 0x1, CS := 0x6000, IP := 0x100 } Flags.clear [] [0x3C, 0x02])
      (fun t =>
        t.flags.CF && t.flags.PF && t.flags.AF && !t.flags.ZF && t.flags.SF && !t.flags.OF &&
        t.regs.AX == 0x1 && t.regs.IP == 0x102) = true := by decide

/-- Vector A21i of 95_test_vectors.md. -/
theorem test_cmpAxIw :
    after (at_ { Regs.zero with AX := 0xFFFF, CS := 0x6000, IP := 0x100 } Flags.clear [] [0x3D, 0x01, 0x00])
      (fun t =>
        !t.flags.CF && !t.flags.PF && !t.flags.AF && !t.flags.ZF && t.flags.SF && !t.flags.OF &&
        t.regs.AX == 0xFFFF && t.regs.IP == 0x103) = true := by decide

/-- Vector A250 of 95_test_vectors.md. -/
theorem test_incR16 :
    after (at_ { Regs.zero with AX := 0xFFFF, CS := 0x6000, IP := 0x100 } Flags.clear [] [0x40])
      (fun t =>
        t.regs.AX == 0x0 && !t.flags.CF && t.flags.PF && t.flags.AF && t.flags.ZF && !t.flags.SF &&
        !t.flags.OF && t.regs.IP == 0x101) = true := by decide

/-- Vector A290 of 95_test_vectors.md. -/
theorem test_decR16 :
    after (at_ { Regs.zero with BX := 0x1, CS := 0x6000, IP := 0x100 } Flags.clear [] [0x4B])
      (fun t =>
        t.regs.BX == 0x0 && !t.flags.CF && t.flags.PF && !t.flags.AF && t.flags.ZF && !t.flags.SF &&
        !t.flags.OF && t.regs.IP == 0x101) = true := by decide

/-- Vector T10 of 95_test_vectors.md. -/
theorem test_pushR16 :
    after (at_ { Regs.zero with SP := 0x100, CS := 0x6000, IP := 0x100 } Flags.clear [] [0x54])
      (fun t =>
        t.regs.SP == 0xFE && t.mem.byteAt 0xFE == 0xFE && t.mem.byteAt 0xFF == 0x00 && t.regs.IP == 0x101) = true := by decide

/-- Vector T11 of 95_test_vectors.md. -/
theorem test_popR16 :
    after (at_ { Regs.zero with SP := 0x100, CS := 0x6000, IP := 0x100 } Flags.clear [(0x100, 0x00), (0x101, 0x02)] [0x5C])
      (fun t =>
        t.regs.SP == 0x200 && t.regs.IP == 0x101) = true := by decide

/-- From the rows of 95_test_vectors.md, part 2. -/
theorem test_jo :
    after (at_ { Regs.zero with CS := 0x6000, IP := 0x100 } { Flags.clear with OF := true } [] [0x70, 0x10])
      (fun t =>
        t.regs.IP == 0x112 && !t.flags.CF && !t.flags.PF && !t.flags.ZF && !t.flags.SF && t.flags.OF) = true := by decide

/-- From the rows of 95_test_vectors.md, part 2. -/
theorem test_jo_2 :
    after (at_ { Regs.zero with CS := 0x6000, IP := 0x100 } { Flags.clear with CF := true, PF := true, ZF := true, SF := true } [] [0x70, 0x10])
      (fun t =>
        t.regs.IP == 0x102 && t.flags.CF && t.flags.PF && t.flags.ZF && t.flags.SF && !t.flags.OF) = true := by decide

/-- From the rows of 95_test_vectors.md, part 2. -/
theorem test_jno :
    after (at_ { Regs.zero with CS := 0x6000, IP := 0x100 } Flags.clear [] [0x71, 0x10])
      (fun t =>
        t.regs.IP == 0x112 && !t.flags.CF && !t.flags.PF && !t.flags.ZF && !t.flags.SF && !t.flags.OF) = true := by decide

/-- From the rows of 95_test_vectors.md, part 2. -/
theorem test_jno_2 :
    after (at_ { Regs.zero with CS := 0x6000, IP := 0x100 } { Flags.clear with CF := true, PF := true, ZF := true, SF := true, OF := true } [] [0x71, 0x10])
      (fun t =>
        t.regs.IP == 0x102 && t.flags.CF && t.flags.PF && t.flags.ZF && t.flags.SF && t.flags.OF) = true := by decide

/-- From the rows of 95_test_vectors.md, part 2. -/
theorem test_jb :
    after (at_ { Regs.zero with CS := 0x6000, IP := 0x100 } { Flags.clear with CF := true } [] [0x72, 0x10])
      (fun t =>
        t.regs.IP == 0x112 && t.flags.CF && !t.flags.PF && !t.flags.ZF && !t.flags.SF && !t.flags.OF) = true := by decide

/-- From the rows of 95_test_vectors.md, part 2. -/
theorem test_jb_2 :
    after (at_ { Regs.zero with CS := 0x6000, IP := 0x100 } { Flags.clear with PF := true, ZF := true, SF := true, OF := true } [] [0x72, 0x10])
      (fun t =>
        t.regs.IP == 0x102 && !t.flags.CF && t.flags.PF && t.flags.ZF && t.flags.SF && t.flags.OF) = true := by decide

/-- From the rows of 95_test_vectors.md, part 2. -/
theorem test_jnb :
    after (at_ { Regs.zero with CS := 0x6000, IP := 0x100 } Flags.clear [] [0x73, 0x10])
      (fun t =>
        t.regs.IP == 0x112 && !t.flags.CF && !t.flags.PF && !t.flags.ZF && !t.flags.SF && !t.flags.OF) = true := by decide

/-- From the rows of 95_test_vectors.md, part 2. -/
theorem test_jnb_2 :
    after (at_ { Regs.zero with CS := 0x6000, IP := 0x100 } { Flags.clear with CF := true, PF := true, ZF := true, SF := true, OF := true } [] [0x73, 0x10])
      (fun t =>
        t.regs.IP == 0x102 && t.flags.CF && t.flags.PF && t.flags.ZF && t.flags.SF && t.flags.OF) = true := by decide

/-- From the rows of 95_test_vectors.md, part 2. -/
theorem test_jz :
    after (at_ { Regs.zero with CS := 0x6000, IP := 0x100 } { Flags.clear with ZF := true } [] [0x74, 0x10])
      (fun t =>
        t.regs.IP == 0x112 && !t.flags.CF && !t.flags.PF && t.flags.ZF && !t.flags.SF && !t.flags.OF) = true := by decide

/-- From the rows of 95_test_vectors.md, part 2. -/
theorem test_jz_2 :
    after (at_ { Regs.zero with CS := 0x6000, IP := 0x100 } { Flags.clear with CF := true, PF := true, SF := true, OF := true } [] [0x74, 0x10])
      (fun t =>
        t.regs.IP == 0x102 && t.flags.CF && t.flags.PF && !t.flags.ZF && t.flags.SF && t.flags.OF) = true := by decide

/-- From the rows of 95_test_vectors.md, part 2. -/
theorem test_jnz :
    after (at_ { Regs.zero with CS := 0x6000, IP := 0x100 } Flags.clear [] [0x75, 0x10])
      (fun t =>
        t.regs.IP == 0x112 && !t.flags.CF && !t.flags.PF && !t.flags.ZF && !t.flags.SF && !t.flags.OF) = true := by decide

/-- From the rows of 95_test_vectors.md, part 2. -/
theorem test_jnz_2 :
    after (at_ { Regs.zero with CS := 0x6000, IP := 0x100 } { Flags.clear with CF := true, PF := true, ZF := true, SF := true, OF := true } [] [0x75, 0x10])
      (fun t =>
        t.regs.IP == 0x102 && t.flags.CF && t.flags.PF && t.flags.ZF && t.flags.SF && t.flags.OF) = true := by decide

/-- From the rows of 95_test_vectors.md, part 2. -/
theorem test_jbe :
    after (at_ { Regs.zero with CS := 0x6000, IP := 0x100 } { Flags.clear with ZF := true } [] [0x76, 0x10])
      (fun t =>
        t.regs.IP == 0x112 && !t.flags.CF && !t.flags.PF && t.flags.ZF && !t.flags.SF && !t.flags.OF) = true := by decide

/-- From the rows of 95_test_vectors.md, part 2. -/
theorem test_jbe_2 :
    after (at_ { Regs.zero with CS := 0x6000, IP := 0x100 } { Flags.clear with PF := true, SF := true, OF := true } [] [0x76, 0x10])
      (fun t =>
        t.regs.IP == 0x102 && !t.flags.CF && t.flags.PF && !t.flags.ZF && t.flags.SF && t.flags.OF) = true := by decide

/-- From the rows of 95_test_vectors.md, part 2. -/
theorem test_ja :
    after (at_ { Regs.zero with CS := 0x6000, IP := 0x100 } Flags.clear [] [0x77, 0x10])
      (fun t =>
        t.regs.IP == 0x112 && !t.flags.CF && !t.flags.PF && !t.flags.ZF && !t.flags.SF && !t.flags.OF) = true := by decide

/-- From the rows of 95_test_vectors.md, part 2. -/
theorem test_ja_2 :
    after (at_ { Regs.zero with CS := 0x6000, IP := 0x100 } { Flags.clear with CF := true, PF := true, ZF := true, SF := true, OF := true } [] [0x77, 0x10])
      (fun t =>
        t.regs.IP == 0x102 && t.flags.CF && t.flags.PF && t.flags.ZF && t.flags.SF && t.flags.OF) = true := by decide

/-- From the rows of 95_test_vectors.md, part 2. -/
theorem test_js :
    after (at_ { Regs.zero with CS := 0x6000, IP := 0x100 } { Flags.clear with SF := true } [] [0x78, 0x10])
      (fun t =>
        t.regs.IP == 0x112 && !t.flags.CF && !t.flags.PF && !t.flags.ZF && t.flags.SF && !t.flags.OF) = true := by decide

/-- From the rows of 95_test_vectors.md, part 2. -/
theorem test_js_2 :
    after (at_ { Regs.zero with CS := 0x6000, IP := 0x100 } { Flags.clear with CF := true, PF := true, ZF := true, OF := true } [] [0x78, 0x10])
      (fun t =>
        t.regs.IP == 0x102 && t.flags.CF && t.flags.PF && t.flags.ZF && !t.flags.SF && t.flags.OF) = true := by decide

/-- From the rows of 95_test_vectors.md, part 2. -/
theorem test_jns :
    after (at_ { Regs.zero with CS := 0x6000, IP := 0x100 } Flags.clear [] [0x79, 0x10])
      (fun t =>
        t.regs.IP == 0x112 && !t.flags.CF && !t.flags.PF && !t.flags.ZF && !t.flags.SF && !t.flags.OF) = true := by decide

/-- From the rows of 95_test_vectors.md, part 2. -/
theorem test_jns_2 :
    after (at_ { Regs.zero with CS := 0x6000, IP := 0x100 } { Flags.clear with CF := true, PF := true, ZF := true, SF := true, OF := true } [] [0x79, 0x10])
      (fun t =>
        t.regs.IP == 0x102 && t.flags.CF && t.flags.PF && t.flags.ZF && t.flags.SF && t.flags.OF) = true := by decide

/-- From the rows of 95_test_vectors.md, part 2. -/
theorem test_jpe :
    after (at_ { Regs.zero with CS := 0x6000, IP := 0x100 } { Flags.clear with PF := true } [] [0x7A, 0x10])
      (fun t =>
        t.regs.IP == 0x112 && !t.flags.CF && t.flags.PF && !t.flags.ZF && !t.flags.SF && !t.flags.OF) = true := by decide

/-- From the rows of 95_test_vectors.md, part 2. -/
theorem test_jpe_2 :
    after (at_ { Regs.zero with CS := 0x6000, IP := 0x100 } { Flags.clear with CF := true, ZF := true, SF := true, OF := true } [] [0x7A, 0x10])
      (fun t =>
        t.regs.IP == 0x102 && t.flags.CF && !t.flags.PF && t.flags.ZF && t.flags.SF && t.flags.OF) = true := by decide

/-- From the rows of 95_test_vectors.md, part 2. -/
theorem test_jpo :
    after (at_ { Regs.zero with CS := 0x6000, IP := 0x100 } Flags.clear [] [0x7B, 0x10])
      (fun t =>
        t.regs.IP == 0x112 && !t.flags.CF && !t.flags.PF && !t.flags.ZF && !t.flags.SF && !t.flags.OF) = true := by decide

/-- From the rows of 95_test_vectors.md, part 2. -/
theorem test_jpo_2 :
    after (at_ { Regs.zero with CS := 0x6000, IP := 0x100 } { Flags.clear with CF := true, PF := true, ZF := true, SF := true, OF := true } [] [0x7B, 0x10])
      (fun t =>
        t.regs.IP == 0x102 && t.flags.CF && t.flags.PF && t.flags.ZF && t.flags.SF && t.flags.OF) = true := by decide

/-- From the rows of 95_test_vectors.md, part 2. -/
theorem test_jl :
    after (at_ { Regs.zero with CS := 0x6000, IP := 0x100 } { Flags.clear with OF := true } [] [0x7C, 0x10])
      (fun t =>
        t.regs.IP == 0x112 && !t.flags.CF && !t.flags.PF && !t.flags.ZF && !t.flags.SF && t.flags.OF) = true := by decide

/-- From the rows of 95_test_vectors.md, part 2. -/
theorem test_jl_2 :
    after (at_ { Regs.zero with CS := 0x6000, IP := 0x100 } { Flags.clear with CF := true, PF := true, ZF := true, SF := true, OF := true } [] [0x7C, 0x10])
      (fun t =>
        t.regs.IP == 0x102 && t.flags.CF && t.flags.PF && t.flags.ZF && t.flags.SF && t.flags.OF) = true := by decide

/-- From the rows of 95_test_vectors.md, part 2. -/
theorem test_jge :
    after (at_ { Regs.zero with CS := 0x6000, IP := 0x100 } Flags.clear [] [0x7D, 0x10])
      (fun t =>
        t.regs.IP == 0x112 && !t.flags.CF && !t.flags.PF && !t.flags.ZF && !t.flags.SF && !t.flags.OF) = true := by decide

/-- From the rows of 95_test_vectors.md, part 2. -/
theorem test_jge_2 :
    after (at_ { Regs.zero with CS := 0x6000, IP := 0x100 } { Flags.clear with CF := true, PF := true, ZF := true, SF := true } [] [0x7D, 0x10])
      (fun t =>
        t.regs.IP == 0x102 && t.flags.CF && t.flags.PF && t.flags.ZF && t.flags.SF && !t.flags.OF) = true := by decide

/-- From the rows of 95_test_vectors.md, part 2. -/
theorem test_jle :
    after (at_ { Regs.zero with CS := 0x6000, IP := 0x100 } { Flags.clear with OF := true } [] [0x7E, 0x10])
      (fun t =>
        t.regs.IP == 0x112 && !t.flags.CF && !t.flags.PF && !t.flags.ZF && !t.flags.SF && t.flags.OF) = true := by decide

/-- From the rows of 95_test_vectors.md, part 2. -/
theorem test_jle_2 :
    after (at_ { Regs.zero with CS := 0x6000, IP := 0x100 } { Flags.clear with CF := true, PF := true, SF := true, OF := true } [] [0x7E, 0x10])
      (fun t =>
        t.regs.IP == 0x102 && t.flags.CF && t.flags.PF && !t.flags.ZF && t.flags.SF && t.flags.OF) = true := by decide

/-- From the rows of 95_test_vectors.md, part 2. -/
theorem test_jg :
    after (at_ { Regs.zero with CS := 0x6000, IP := 0x100 } Flags.clear [] [0x7F, 0x10])
      (fun t =>
        t.regs.IP == 0x112 && !t.flags.CF && !t.flags.PF && !t.flags.ZF && !t.flags.SF && !t.flags.OF) = true := by decide

/-- From the rows of 95_test_vectors.md, part 2. -/
theorem test_jg_2 :
    after (at_ { Regs.zero with CS := 0x6000, IP := 0x100 } { Flags.clear with CF := true, PF := true, ZF := true, SF := true, OF := true } [] [0x7F, 0x10])
      (fun t =>
        t.regs.IP == 0x102 && t.flags.CF && t.flags.PF && t.flags.ZF && t.flags.SF && t.flags.OF) = true := by decide

/-- Vector A2m of 95_test_vectors.md. -/
theorem test_addRm8Ib :
    after (at_ { Regs.zero with BX := 0x10, CS := 0x6000, DS := 0x3000, IP := 0x100 } Flags.clear [(0x30010, 0xFF), (0x30011, 0x00)] [0x80, 0x07, 0x01])
      (fun t =>
        t.flags.CF && t.flags.PF && t.flags.AF && t.flags.ZF && !t.flags.SF && !t.flags.OF &&
        t.mem.byteAt 0x30010 == 0x00 && t.mem.byteAt 0x30011 == 0x00 && t.regs.IP == 0x103) = true := by decide

/-- Vector A8m of 95_test_vectors.md. -/
theorem test_adcRm8Ib :
    after (at_ { Regs.zero with BX := 0x10, CS := 0x6000, DS := 0x3000, IP := 0x100 } { Flags.clear with CF := true } [(0x30010, 0xFF), (0x30011, 0x00)] [0x80, 0x17, 0x00])
      (fun t =>
        t.flags.CF && t.flags.PF && t.flags.AF && t.flags.ZF && !t.flags.SF && !t.flags.OF &&
        t.mem.byteAt 0x30010 == 0x00 && t.mem.byteAt 0x30011 == 0x00 && t.regs.IP == 0x103) = true := by decide

/-- Vector A17m of 95_test_vectors.md. -/
theorem test_sbbRm8Ib :
    after (at_ { Regs.zero with BX := 0x10, CS := 0x6000, DS := 0x3000, IP := 0x100 } { Flags.clear with CF := true } [(0x30010, 0x00), (0x30011, 0x00)] [0x80, 0x1F, 0x00])
      (fun t =>
        t.flags.CF && t.flags.PF && t.flags.AF && !t.flags.ZF && t.flags.SF && !t.flags.OF &&
        t.mem.byteAt 0x30010 == 0xFF && t.mem.byteAt 0x30011 == 0x00 && t.regs.IP == 0x103) = true := by decide

/-- Vector A13m of 95_test_vectors.md. -/
theorem test_subRm8Ib :
    after (at_ { Regs.zero with BX := 0x10, CS := 0x6000, DS := 0x3000, IP := 0x100 } Flags.clear [(0x30010, 0x80), (0x30011, 0x00)] [0x80, 0x2F, 0x01])
      (fun t =>
        !t.flags.CF && !t.flags.PF && t.flags.AF && !t.flags.ZF && !t.flags.SF && t.flags.OF &&
        t.mem.byteAt 0x30010 == 0x7F && t.mem.byteAt 0x30011 == 0x00 && t.regs.IP == 0x103) = true := by decide

/-- Vector A20m of 95_test_vectors.md. -/
theorem test_cmpRm8Ib :
    after (at_ { Regs.zero with BX := 0x10, CS := 0x6000, DS := 0x3000, IP := 0x100 } Flags.clear [(0x30010, 0x01), (0x30011, 0x00)] [0x80, 0x3F, 0x02])
      (fun t =>
        t.flags.CF && t.flags.PF && t.flags.AF && !t.flags.ZF && t.flags.SF && !t.flags.OF &&
        t.mem.byteAt 0x30010 == 0x01 && t.mem.byteAt 0x30011 == 0x00 && t.regs.IP == 0x103) = true := by decide

/-- Vector A1m of 95_test_vectors.md. -/
theorem test_addRm16Iw :
    after (at_ { Regs.zero with BX := 0x10, CS := 0x6000, DS := 0x3000, IP := 0x100 } Flags.clear [(0x30010, 0xFF), (0x30011, 0x7F)] [0x81, 0x07, 0x01, 0x00])
      (fun t =>
        !t.flags.CF && t.flags.PF && t.flags.AF && !t.flags.ZF && t.flags.SF && t.flags.OF &&
        t.mem.byteAt 0x30010 == 0x00 && t.mem.byteAt 0x30011 == 0x80 && t.regs.IP == 0x104) = true := by decide

/-- Vector A10m of 95_test_vectors.md. -/
theorem test_adcRm16Iw :
    after (at_ { Regs.zero with BX := 0x10, CS := 0x6000, DS := 0x3000, IP := 0x100 } { Flags.clear with CF := true } [(0x30010, 0xFF), (0x30011, 0xFF)] [0x81, 0x17, 0xFF, 0xFF])
      (fun t =>
        t.flags.CF && t.flags.PF && t.flags.AF && !t.flags.ZF && t.flags.SF && !t.flags.OF &&
        t.mem.byteAt 0x30010 == 0xFF && t.mem.byteAt 0x30011 == 0xFF && t.regs.IP == 0x104) = true := by decide

/-- Vector L5 of 95_test_vectors.md. -/
theorem test_andRm16Iw :
    after (at_ { Regs.zero with AX := 0xFF, CS := 0x6000, IP := 0x100 } Flags.clear [] [0x81, 0xE0, 0x00, 0xFF])
      (fun t =>
        t.regs.AX == 0x0 && t.flags.ZF && !t.flags.SF && t.flags.PF && !t.flags.CF && !t.flags.OF &&
        t.regs.IP == 0x104) = true := by decide

/-- Vector A12m of 95_test_vectors.md. -/
theorem test_subRm16Iw :
    after (at_ { Regs.zero with BX := 0x10, CS := 0x6000, DS := 0x3000, IP := 0x100 } Flags.clear [(0x30010, 0x00), (0x30011, 0x00)] [0x81, 0x2F, 0x01, 0x00])
      (fun t =>
        t.flags.CF && t.flags.PF && t.flags.AF && !t.flags.ZF && t.flags.SF && !t.flags.OF &&
        t.mem.byteAt 0x30010 == 0xFF && t.mem.byteAt 0x30011 == 0xFF && t.regs.IP == 0x104) = true := by decide

/-- Vector A21m of 95_test_vectors.md. -/
theorem test_cmpRm16Iw :
    after (at_ { Regs.zero with BX := 0x10, CS := 0x6000, DS := 0x3000, IP := 0x100 } Flags.clear [(0x30010, 0xFF), (0x30011, 0xFF)] [0x81, 0x3F, 0x01, 0x00])
      (fun t =>
        !t.flags.CF && !t.flags.PF && !t.flags.AF && !t.flags.ZF && t.flags.SF && !t.flags.OF &&
        t.mem.byteAt 0x30010 == 0xFF && t.mem.byteAt 0x30011 == 0xFF && t.regs.IP == 0x104) = true := by decide

/-- Vector E15b of 95_test_vectors.md. -/
theorem test_addRm8Ib82 :
    after (at_ { Regs.zero with AX := 0x2, CS := 0x6000, IP := 0x100 } Flags.clear [] [0x82, 0xC0, 0xFF])
      (fun t =>
        t.regs.AX == 0x1 && t.regs.IP == 0x103) = true := by decide

/-- Vector E13 of 95_test_vectors.md. -/
theorem test_addRm16Sext :
    after (at_ { Regs.zero with AX := 0x2, CS := 0x6000, IP := 0x100 } Flags.clear [] [0x83, 0xC0, 0xFF])
      (fun t =>
        t.regs.AX == 0x1 && t.regs.IP == 0x103) = true := by decide

/-- Vector L6 of 95_test_vectors.md. -/
theorem test_andRm16Sext :
    after (at_ { Regs.zero with AX := 0x1234, CS := 0x6000, IP := 0x100 } Flags.clear [] [0x83, 0xE0, 0xF0])
      (fun t =>
        t.regs.AX == 0x1230 && !t.flags.ZF && !t.flags.SF && t.flags.PF && !t.flags.CF && !t.flags.OF &&
        t.regs.IP == 0x103) = true := by decide

/-- Vector L8 of 95_test_vectors.md. -/
theorem test_testRm16R16 :
    after (at_ { Regs.zero with AX := 0x1, BX := 0x2, CS := 0x6000, IP := 0x100 } Flags.clear [] [0x85, 0xD8])
      (fun t =>
        t.regs.AX == 0x1 && t.regs.BX == 0x2 && t.flags.ZF && !t.flags.SF && t.flags.PF && !t.flags.CF &&
        !t.flags.OF && t.regs.IP == 0x102) = true := by decide

/-- Vector T8 of 95_test_vectors.md. -/
theorem test_xchgRm8R8 :
    after (at_ { Regs.zero with AX := 0x201, CS := 0x6000, IP := 0x100 } Flags.clear [] [0x86, 0xE0])
      (fun t =>
        t.regs.AX == 0x102 && t.regs.IP == 0x102) = true := by decide

/-- Vector T23 of 95_test_vectors.md. -/
theorem test_movRm16R16 :
    after (at_ { Regs.zero with BX := 0x200, CS := 0x6000, DS := 0x1000, IP := 0x100 } Flags.clear [] [0x89, 0x1F])
      (fun t =>
        t.mem.byteAt 0x10200 == 0x00 && t.mem.byteAt 0x10201 == 0x02 && t.regs.IP == 0x102) = true := by decide

/-- Vector E12 of 95_test_vectors.md. -/
theorem test_movR8Rm8 :
    after (at_ { Regs.zero with AX := 0x11, BX := 0x1234, CS := 0x6000, IP := 0x100 } Flags.clear [] [0x8A, 0xE3])
      (fun t =>
        t.regs.AX == 0x3411 && t.regs.IP == 0x102) = true := by decide

/-- Vector E1 of 95_test_vectors.md. -/
theorem test_movR16Rm16 :
    after (at_ { Regs.zero with BX := 0x1000, BP := 0x2000, SI := 0x234, DI := 0x10, CS := 0x6000, DS := 0x3000, ES := 0x4000, SS := 0x5000, IP := 0x100 } Flags.clear [(0x31234, 0xCD), (0x31235, 0xAB)] [0x8B, 0x00])
      (fun t =>
        t.regs.AX == 0xABCD && t.regs.IP == 0x102) = true := by decide

/-- Vector T7 of 95_test_vectors.md. -/
theorem test_movRm16Sreg :
    after (at_ { Regs.zero with CS := 0x6000, DS := 0x1234, IP := 0x100 } Flags.clear [] [0x8C, 0xD8])
      (fun t =>
        t.regs.AX == 0x1234 && t.regs.IP == 0x102) = true := by decide

/-- Vector T14 of 95_test_vectors.md. -/
theorem test_leaR16M :
    after (at_ { Regs.zero with BX := 0x1000, SI := 0x234, CS := 0x6000, IP := 0x100 } Flags.clear [] [0x8D, 0x40, 0x10])
      (fun t =>
        t.regs.AX == 0x1244 && t.regs.IP == 0x103) = true := by decide

/-- Vector T6 of 95_test_vectors.md. -/
theorem test_movSregRm16 :
    after (at_ { Regs.zero with AX := 0xB800, CS := 0x6000, IP := 0x100 } Flags.clear [] [0x8E, 0xC0])
      (fun t =>
        t.regs.ES == 0xB800 && t.regs.IP == 0x102) = true := by decide

/-- Vector T22 of 95_test_vectors.md. -/
theorem test_popRm16 :
    after (at_ { Regs.zero with SP := 0x100, CS := 0x6000, DS := 0x1000, IP := 0x100 } Flags.clear [(0x100, 0x34), (0x101, 0x12)] [0x8F, 0x06, 0x00, 0x03])
      (fun t =>
        t.mem.byteAt 0x10300 == 0x34 && t.mem.byteAt 0x10301 == 0x12 && t.regs.SP == 0x102 && t.regs.IP == 0x104) = true := by decide

/-- Vector T12 of 95_test_vectors.md. -/
theorem test_xchgAxR16 :
    after (at_ { Regs.zero with AX := 0x1, BX := 0x2, CS := 0x6000, IP := 0x100 } Flags.clear [] [0x93])
      (fun t =>
        t.regs.AX == 0x2 && t.regs.BX == 0x1 && t.regs.IP == 0x101) = true := by decide

/-- Vector CF31 of 95_test_vectors.md. -/
theorem test_callPtr :
    after (at_ { Regs.zero with SP := 0x100, CS := 0x1000, IP := 0x100 } Flags.clear [] [0x9A, 0x00, 0x02, 0x00, 0x30])
      (fun t =>
        t.regs.CS == 0x3000 && t.regs.IP == 0x200 && t.regs.SP == 0xFC && t.mem.byteAt 0xFE == 0x00 &&
        t.mem.byteAt 0xFF == 0x10 && t.mem.byteAt 0xFC == 0x05 && t.mem.byteAt 0xFD == 0x01) = true := by decide

/-- Vector T18 of 95_test_vectors.md. -/
theorem test_pushf :
    after (at_ { Regs.zero with SP := 0x100, CS := 0x6000, IP := 0x100 } { Flags.clear with CF := true, ZF := true } [] [0x9C])
      (fun t =>
        t.regs.SP == 0xFE && t.mem.byteAt 0xFE == 0x43 && t.mem.byteAt 0xFF == 0xF0 && t.regs.IP == 0x101) = true := by decide

/-- Vector T19 of 95_test_vectors.md. -/
theorem test_popf :
    after (at_ { Regs.zero with SP := 0x100, CS := 0x6000, IP := 0x100 } Flags.clear [(0x100, 0xD5), (0x101, 0x0A)] [0x9D])
      (fun t =>
        t.flags.CF && t.flags.PF && t.flags.AF && t.flags.ZF && t.flags.SF && t.flags.IF && t.flags.OF &&
        !t.flags.TF && !t.flags.DF && t.regs.SP == 0x102 && t.regs.IP == 0x101) = true := by decide

/-- Vector T5 of 95_test_vectors.md. -/
theorem test_movMoffsAx :
    after (at_ { Regs.zero with AX := 0xBEEF, CS := 0x6000, ES := 0x2000, IP := 0x100 } Flags.clear [] [0x26, 0xA3, 0x10, 0x00])
      (fun t =>
        t.mem.byteAt 0x20010 == 0xEF && t.mem.byteAt 0x20011 == 0xBE && t.regs.IP == 0x104) = true := by decide

/-- Vector ST4 of 95_test_vectors.md. -/
theorem test_movsb :
    after (at_ { Regs.zero with CX := 0x5, SI := 0x10, DI := 0x20, CS := 0x6000, DS := 0x1000, ES := 0x2000, IP := 0x100 } Flags.clear [(0x10010, 0x48), (0x10011, 0x65), (0x10012, 0x6C), (0x10013, 0x6C), (0x10014, 0x6F)] [0xF3, 0xA4])
      (fun t =>
        t.mem.byteAt 0x20020 == 0x48 && t.mem.byteAt 0x20021 == 0x65 && t.mem.byteAt 0x20022 == 0x6C &&
        t.mem.byteAt 0x20023 == 0x6C && t.mem.byteAt 0x20024 == 0x6F && t.regs.CX == 0x0 && t.regs.SI == 0x15 &&
        t.regs.DI == 0x25 && t.regs.IP == 0x102) = true := by decide

/-- Vector ST2 of 95_test_vectors.md. -/
theorem test_movsw :
    after (at_ { Regs.zero with SI := 0x10, DI := 0x20, CS := 0x6000, DS := 0x1000, ES := 0x2000, IP := 0x100 } { Flags.clear with DF := true } [(0x10010, 0x34), (0x10011, 0x12)] [0xA5])
      (fun t =>
        t.mem.byteAt 0x20020 == 0x34 && t.mem.byteAt 0x20021 == 0x12 && t.regs.SI == 0xE && t.regs.DI == 0x1E &&
        t.regs.IP == 0x101) = true := by decide

/-- Vector ST10 of 95_test_vectors.md. -/
theorem test_cmpsb :
    after (at_ { Regs.zero with CX := 0x5, SI := 0x10, DI := 0x20, CS := 0x6000, DS := 0x1000, ES := 0x2000, IP := 0x100 } Flags.clear [(0x10010, 0x61), (0x10011, 0x62), (0x10012, 0x63), (0x20020, 0x61), (0x20021, 0x62), (0x20022, 0x78)] [0xF3, 0xA6])
      (fun t =>
        t.regs.CX == 0x2 && t.regs.SI == 0x13 && t.regs.DI == 0x23 && t.flags.CF && !t.flags.ZF && t.flags.SF &&
        !t.flags.OF && t.flags.AF && t.flags.PF && t.regs.IP == 0x102) = true := by decide

/-- Vector L7 of 95_test_vectors.md. -/
theorem test_testAlIb :
    after (at_ { Regs.zero with AX := 0x81, CS := 0x6000, IP := 0x100 } Flags.clear [] [0xA8, 0x80])
      (fun t =>
        t.regs.AX == 0x81 && !t.flags.ZF && t.flags.SF && !t.flags.PF && !t.flags.CF && !t.flags.OF &&
        t.regs.IP == 0x102) = true := by decide

/-- Vector ST13 of 95_test_vectors.md. -/
theorem test_stosb :
    after (at_ { Regs.zero with AX := 0x41, SI := 0x10, DI := 0x20, CS := 0x6000, DS := 0x1000, ES := 0x2000, IP := 0x100 } Flags.clear [] [0x3E, 0xAA])
      (fun t =>
        t.mem.byteAt 0x20020 == 0x41 && t.regs.DI == 0x21 && t.regs.SI == 0x10 && t.regs.IP == 0x102) = true := by decide

/-- From the rows of 95_test_vectors.md, part 2. -/
theorem test_stosw :
    after (at_ { Regs.zero with AX := 0x1234, DI := 0x20, CS := 0x6000, ES := 0x2000, IP := 0x100 } Flags.clear [] [0xAB])
      (fun t =>
        t.regs.DI == 0x22 && t.mem.byteAt 0x20020 == 0x34 && t.mem.byteAt 0x20021 == 0x12 && t.regs.IP == 0x101) = true := by decide

/-- Vector ST7 of 95_test_vectors.md. -/
theorem test_lodsb :
    after (at_ { Regs.zero with AX := 0x5500, SI := 0x10, DI := 0x20, CS := 0x6000, DS := 0x1000, ES := 0x2000, IP := 0x100 } Flags.clear [(0x10010, 0x41)] [0xAC])
      (fun t =>
        t.regs.AX == 0x5541 && t.regs.SI == 0x11 && t.regs.IP == 0x101) = true := by decide

/-- Vector ST6 of 95_test_vectors.md. -/
theorem test_lodsw :
    after (at_ { Regs.zero with SI := 0x10, DI := 0x20, CS := 0x6000, DS := 0x1000, ES := 0x2000, IP := 0x100 } { Flags.clear with DF := true } [(0x10010, 0x34), (0x10011, 0x12)] [0xAD])
      (fun t =>
        t.regs.AX == 0x1234 && t.regs.SI == 0xE && t.regs.DI == 0x20 && t.regs.IP == 0x101) = true := by decide

/-- Vector ST9 of 95_test_vectors.md. -/
theorem test_scasb :
    after (at_ { Regs.zero with CX := 0xFFFF, SI := 0x10, DI := 0x20, CS := 0x6000, DS := 0x1000, ES := 0x2000, IP := 0x100 } Flags.clear [(0x20020, 0x41), (0x20021, 0x42)] [0xF2, 0xAE])
      (fun t =>
        t.regs.CX == 0xFFFC && t.regs.DI == 0x23 && t.flags.ZF && !t.flags.CF && !t.flags.SF && !t.flags.OF &&
        !t.flags.AF && t.flags.PF && t.regs.IP == 0x102) = true := by decide

/-- Vector T3 of 95_test_vectors.md. -/
theorem test_movR8Ib :
    after (at_ { Regs.zero with AX := 0x1234, CS := 0x6000, IP := 0x100 } Flags.clear [] [0xB4, 0x0E])
      (fun t =>
        t.regs.AX == 0xE34 && t.regs.IP == 0x102) = true := by decide

/-- Vector T2 of 95_test_vectors.md. -/
theorem test_movR16Iw :
    after (at_ { Regs.zero with CS := 0x6000, IP := 0x100 } Flags.clear [] [0xB8, 0x00, 0x4C])
      (fun t =>
        t.regs.AX == 0x4C00 && t.regs.IP == 0x103) = true := by decide

/-- Vector CF30 of 95_test_vectors.md. -/
theorem test_retIw :
    after (at_ { Regs.zero with SP := 0xFFFC, CS := 0x6000, IP := 0x100 } Flags.clear [(0xFFFC, 0x07), (0xFFFD, 0x01)] [0xC2, 0x04, 0x00])
      (fun t =>
        t.regs.IP == 0x107 && t.regs.SP == 0x2) = true := by decide

/-- Vector CF29 of 95_test_vectors.md. -/
theorem test_ret :
    after (at_ { Regs.zero with SP := 0xFFFC, CS := 0x6000, IP := 0x100 } Flags.clear [(0xFFFC, 0x07), (0xFFFD, 0x01)] [0xC3])
      (fun t =>
        t.regs.IP == 0x107 && t.regs.SP == 0xFFFE) = true := by decide

/-- Vector T17 of 95_test_vectors.md. -/
theorem test_lesR16M :
    after (at_ { Regs.zero with CS := 0x6000, DS := 0x1000, IP := 0x100 } Flags.clear [(0x10200, 0x34), (0x10201, 0x12), (0x10202, 0x00), (0x10203, 0xB8)] [0xC4, 0x3E, 0x00, 0x02])
      (fun t =>
        t.regs.DI == 0x1234 && t.regs.ES == 0xB800 && t.regs.DS == 0x1000 && t.regs.IP == 0x104) = true := by decide

/-- Vector T16 of 95_test_vectors.md. -/
theorem test_ldsR16M :
    after (at_ { Regs.zero with CS := 0x6000, DS := 0x1000, IP := 0x100 } Flags.clear [(0x10200, 0x34), (0x10201, 0x12), (0x10202, 0x00), (0x10203, 0xB8)] [0xC5, 0x36, 0x00, 0x02])
      (fun t =>
        t.regs.SI == 0x1234 && t.regs.DS == 0xB800 && t.regs.IP == 0x104) = true := by decide

/-- Vector T4 of 95_test_vectors.md. -/
theorem test_movRm8Ib :
    after (at_ { Regs.zero with CS := 0x6000, DS := 0x1000, IP := 0x100 } Flags.clear [] [0xC6, 0x06, 0x00, 0x02, 0x41])
      (fun t =>
        t.mem.byteAt 0x10200 == 0x41 && t.regs.IP == 0x105) = true := by decide

/-- Vector E16 of 95_test_vectors.md. -/
theorem test_movRm16Iw :
    after (at_ { Regs.zero with CS := 0x6000, DS := 0x1000, IP := 0x100 } Flags.clear [] [0xC7, 0x06, 0x00, 0x02, 0x34, 0x12])
      (fun t =>
        t.mem.byteAt 0x10200 == 0x34 && t.mem.byteAt 0x10201 == 0x12 && t.regs.IP == 0x106) = true := by decide

/-- Vector CF33 of 95_test_vectors.md. -/
theorem test_retfIw :
    after (at_ { Regs.zero with SP := 0xFC, CS := 0x3000, IP := 0x100 } Flags.clear [(0xFE, 0x00), (0xFF, 0x10), (0xFC, 0x05), (0xFD, 0x01)] [0xCA, 0x02, 0x00])
      (fun t =>
        t.regs.IP == 0x105 && t.regs.CS == 0x1000 && t.regs.SP == 0x102) = true := by decide

/-- Vector CF32 of 95_test_vectors.md. -/
theorem test_retf :
    after (at_ { Regs.zero with SP := 0xFC, CS := 0x3000, IP := 0x100 } Flags.clear [(0xFE, 0x00), (0xFF, 0x10), (0xFC, 0x05), (0xFD, 0x01)] [0xCB])
      (fun t =>
        t.regs.IP == 0x105 && t.regs.CS == 0x1000 && t.regs.SP == 0x100) = true := by decide

/-- Vector IN3 of 95_test_vectors.md. -/
theorem test_int3 :
    after (at_ { Regs.zero with AX := 0x1234, SP := 0xFFFE, CS := 0x1000, SS := 0x1000, IP := 0x100 } { Flags.clear with CF := true, IF := true } [] [0xCC])
      (fun t =>
        t.regs.SP == 0xFFFE && t.flags.IF && t.regs.IP == 0x100 && t.run_state == .stopped &&
        t.fatalError? == some (.unhandledInterrupt 3 0x12)) = true := by decide

/-- Vector IN7 of 95_test_vectors.md. -/
theorem test_iret :
    after (at_ { Regs.zero with SP := 0xFFF8, CS := 0x6000, SS := 0x1000, IP := 0x100 } { Flags.clear with AF := true, OF := true } [(0x1FFF8, 0x02), (0x1FFF9, 0x01), (0x1FFFA, 0x00), (0x1FFFB, 0x10), (0x1FFFC, 0x43), (0x1FFFD, 0xF2)] [0xCF])
      (fun t =>
        t.regs.IP == 0x102 && t.regs.CS == 0x1000 && t.flags.CF && t.flags.ZF && t.flags.IF && !t.flags.PF &&
        !t.flags.AF && !t.flags.SF && !t.flags.OF && !t.flags.DF && !t.flags.TF && t.regs.SP == 0xFFFE) = true := by decide

/-- From the rows of 95_test_vectors.md, part 2. -/
theorem test_rolRm8One :
    after (at_ { Regs.zero with BX := 0x81, CS := 0x6000, IP := 0x100 } Flags.clear [] [0xD0, 0xC3])
      (fun t =>
        t.flags.CF && t.flags.OF && !t.flags.ZF && !t.flags.SF && !t.flags.PF && !t.flags.AF &&
        t.regs.BX == 0x3 && t.regs.IP == 0x102) = true := by decide

/-- From the rows of 95_test_vectors.md, part 2. -/
theorem test_rorRm8One :
    after (at_ { Regs.zero with BX := 0x1, CS := 0x6000, IP := 0x100 } Flags.clear [] [0xD0, 0xCB])
      (fun t =>
        t.flags.CF && t.flags.OF && !t.flags.ZF && !t.flags.SF && !t.flags.PF && !t.flags.AF &&
        t.regs.BX == 0x80 && t.regs.IP == 0x102) = true := by decide

/-- From the rows of 95_test_vectors.md, part 2. -/
theorem test_rclRm8One :
    after (at_ { Regs.zero with BX := 0x80, CS := 0x6000, IP := 0x100 } Flags.clear [] [0xD0, 0xD3])
      (fun t =>
        t.flags.CF && t.flags.OF && !t.flags.ZF && !t.flags.SF && !t.flags.PF && !t.flags.AF &&
        t.regs.BX == 0x0 && t.regs.IP == 0x102) = true := by decide

/-- From the rows of 95_test_vectors.md, part 2. -/
theorem test_rcrRm8One :
    after (at_ { Regs.zero with BX := 0x1, CS := 0x6000, IP := 0x100 } { Flags.clear with CF := true } [] [0xD0, 0xDB])
      (fun t =>
        t.flags.CF && t.flags.OF && !t.flags.ZF && !t.flags.SF && !t.flags.PF && !t.flags.AF &&
        t.regs.BX == 0x80 && t.regs.IP == 0x102) = true := by decide

/-- From the rows of 95_test_vectors.md, part 2. -/
theorem test_shlRm8One :
    after (at_ { Regs.zero with BX := 0x81, CS := 0x6000, IP := 0x100 } Flags.clear [] [0xD0, 0xE3])
      (fun t =>
        t.flags.CF && t.flags.OF && !t.flags.ZF && !t.flags.SF && !t.flags.PF && t.regs.BX == 0x2 &&
        t.regs.IP == 0x102) = true := by decide

/-- From the rows of 95_test_vectors.md, part 2. -/
theorem test_shrRm8One :
    after (at_ { Regs.zero with BX := 0x1, CS := 0x6000, IP := 0x100 } Flags.clear [] [0xD0, 0xEB])
      (fun t =>
        t.flags.CF && !t.flags.OF && t.flags.ZF && !t.flags.SF && t.flags.PF && t.regs.BX == 0x0 &&
        t.regs.IP == 0x102) = true := by decide

/-- From the rows of 95_test_vectors.md, part 2. -/
theorem test_sarRm8One :
    after (at_ { Regs.zero with BX := 0x85, CS := 0x6000, IP := 0x100 } Flags.clear [] [0xD0, 0xFB])
      (fun t =>
        t.flags.CF && !t.flags.OF && !t.flags.ZF && t.flags.SF && !t.flags.PF && t.regs.BX == 0xC2 &&
        t.regs.IP == 0x102) = true := by decide

/-- From the rows of 95_test_vectors.md, part 2. -/
theorem test_shlRm16One :
    after (at_ { Regs.zero with BX := 0x4000, CS := 0x6000, IP := 0x100 } Flags.clear [] [0xD1, 0xE3])
      (fun t =>
        !t.flags.CF && t.flags.OF && !t.flags.ZF && t.flags.SF && t.flags.PF && t.regs.BX == 0x8000 &&
        t.regs.IP == 0x102) = true := by decide

/-- From the rows of 95_test_vectors.md, part 2. -/
theorem test_shrRm16One :
    after (at_ { Regs.zero with BX := 0x8001, CS := 0x6000, IP := 0x100 } Flags.clear [] [0xD1, 0xEB])
      (fun t =>
        t.flags.CF && t.flags.OF && !t.flags.ZF && !t.flags.SF && t.flags.PF && t.regs.BX == 0x4000 &&
        t.regs.IP == 0x102) = true := by decide

/-- From the rows of 95_test_vectors.md, part 2. -/
theorem test_rolRm8Cl :
    after (at_ { Regs.zero with BX := 0x81, CX := 0x1, CS := 0x6000, IP := 0x100 } Flags.clear [] [0xD2, 0xC3])
      (fun t =>
        t.flags.CF && t.flags.OF && !t.flags.ZF && !t.flags.SF && !t.flags.PF && !t.flags.AF &&
        t.regs.BX == 0x3 && t.regs.IP == 0x102) = true := by decide

/-- From the rows of 95_test_vectors.md, part 2. -/
theorem test_rorRm8Cl :
    after (at_ { Regs.zero with BX := 0x1, CX := 0x1, CS := 0x6000, IP := 0x100 } Flags.clear [] [0xD2, 0xCB])
      (fun t =>
        t.flags.CF && t.flags.OF && !t.flags.ZF && !t.flags.SF && !t.flags.PF && !t.flags.AF &&
        t.regs.BX == 0x80 && t.regs.IP == 0x102) = true := by decide

/-- From the rows of 95_test_vectors.md, part 2. -/
theorem test_rclRm8Cl :
    after (at_ { Regs.zero with BX := 0x80, CX := 0x1, CS := 0x6000, IP := 0x100 } Flags.clear [] [0xD2, 0xD3])
      (fun t =>
        t.flags.CF && t.flags.OF && !t.flags.ZF && !t.flags.SF && !t.flags.PF && !t.flags.AF &&
        t.regs.BX == 0x0 && t.regs.IP == 0x102) = true := by decide

/-- From the rows of 95_test_vectors.md, part 2. -/
theorem test_rcrRm8Cl :
    after (at_ { Regs.zero with BX := 0x1, CX := 0x1, CS := 0x6000, IP := 0x100 } { Flags.clear with CF := true } [] [0xD2, 0xDB])
      (fun t =>
        t.flags.CF && t.flags.OF && !t.flags.ZF && !t.flags.SF && !t.flags.PF && !t.flags.AF &&
        t.regs.BX == 0x80 && t.regs.IP == 0x102) = true := by decide

/-- From the rows of 95_test_vectors.md, part 2. -/
theorem test_shlRm8Cl :
    after (at_ { Regs.zero with BX := 0xAB, CX := 0x0, CS := 0x6000, IP := 0x100 } { Flags.clear with CF := true } [] [0xD2, 0xE3])
      (fun t =>
        t.flags.CF && !t.flags.OF && !t.flags.ZF && !t.flags.SF && !t.flags.PF && !t.flags.AF &&
        t.regs.BX == 0xAB && t.regs.IP == 0x102) = true := by decide

/-- From the rows of 95_test_vectors.md, part 2. -/
theorem test_shrRm8Cl :
    after (at_ { Regs.zero with BX := 0x1, CX := 0x1, CS := 0x6000, IP := 0x100 } Flags.clear [] [0xD2, 0xEB])
      (fun t =>
        t.flags.CF && !t.flags.OF && t.flags.ZF && !t.flags.SF && t.flags.PF && t.regs.BX == 0x0 &&
        t.regs.IP == 0x102) = true := by decide

/-- From the rows of 95_test_vectors.md, part 2. -/
theorem test_sarRm8Cl :
    after (at_ { Regs.zero with BX := 0x85, CX := 0x1, CS := 0x6000, IP := 0x100 } Flags.clear [] [0xD2, 0xFB])
      (fun t =>
        t.flags.CF && !t.flags.OF && !t.flags.ZF && t.flags.SF && !t.flags.PF && t.regs.BX == 0xC2 &&
        t.regs.IP == 0x102) = true := by decide

/-- From the rows of 95_test_vectors.md, part 2. -/
theorem test_rolRm16Cl :
    after (at_ { Regs.zero with BX := 0x1234, CX := 0x4, CS := 0x6000, IP := 0x100 } { Flags.clear with CF := true } [] [0xD3, 0xC3])
      (fun t =>
        t.flags.CF && !t.flags.ZF && !t.flags.SF && !t.flags.PF && !t.flags.AF && t.regs.BX == 0x2341 &&
        t.regs.IP == 0x102) = true := by decide

/-- From the rows of 95_test_vectors.md, part 2. -/
theorem test_rorRm16Cl :
    after (at_ { Regs.zero with BX := 0x1234, CX := 0x4, CS := 0x6000, IP := 0x100 } Flags.clear [] [0xD3, 0xCB])
      (fun t =>
        !t.flags.CF && !t.flags.ZF && !t.flags.SF && !t.flags.PF && !t.flags.AF && t.regs.BX == 0x4123 &&
        t.regs.IP == 0x102) = true := by decide

/-- From the rows of 95_test_vectors.md, part 2. -/
theorem test_rclRm16Cl :
    after (at_ { Regs.zero with BX := 0x8000, CX := 0x2, CS := 0x6000, IP := 0x100 } { Flags.clear with CF := true } [] [0xD3, 0xD3])
      (fun t =>
        !t.flags.CF && !t.flags.ZF && !t.flags.SF && !t.flags.PF && !t.flags.AF && t.regs.BX == 0x3 &&
        t.regs.IP == 0x102) = true := by decide

/-- From the rows of 95_test_vectors.md, part 2. -/
theorem test_rcrRm16Cl :
    after (at_ { Regs.zero with BX := 0x1, CX := 0x11, CS := 0x6000, IP := 0x100 } { Flags.clear with CF := true } [] [0xD3, 0xDB])
      (fun t =>
        t.flags.CF && !t.flags.ZF && !t.flags.SF && !t.flags.PF && !t.flags.AF && t.regs.BX == 0x1 &&
        t.regs.IP == 0x102) = true := by decide

/-- From the rows of 95_test_vectors.md, part 2. -/
theorem test_shlRm16Cl :
    after (at_ { Regs.zero with BX := 0x4000, CX := 0x1, CS := 0x6000, IP := 0x100 } Flags.clear [] [0xD3, 0xE3])
      (fun t =>
        !t.flags.CF && t.flags.OF && !t.flags.ZF && t.flags.SF && t.flags.PF && t.regs.BX == 0x8000 &&
        t.regs.IP == 0x102) = true := by decide

/-- From the rows of 95_test_vectors.md, part 2. -/
theorem test_shrRm16Cl :
    after (at_ { Regs.zero with BX := 0x8001, CX := 0x1, CS := 0x6000, IP := 0x100 } Flags.clear [] [0xD3, 0xEB])
      (fun t =>
        t.flags.CF && t.flags.OF && !t.flags.ZF && !t.flags.SF && t.flags.PF && t.regs.BX == 0x4000 &&
        t.regs.IP == 0x102) = true := by decide

/-- From the rows of 95_test_vectors.md, part 2. -/
theorem test_sarRm16Cl :
    after (at_ { Regs.zero with BX := 0x8000, CX := 0xF, CS := 0x6000, IP := 0x100 } Flags.clear [] [0xD3, 0xFB])
      (fun t =>
        !t.flags.CF && !t.flags.ZF && t.flags.SF && t.flags.PF && t.regs.BX == 0xFFFF && t.regs.IP == 0x102) = true := by decide

/-- Vector CF26 of 95_test_vectors.md. -/
theorem test_loopne :
    after (at_ { Regs.zero with CX := 0x3, CS := 0x6000, IP := 0x107 } Flags.clear [] [0xE0, 0xFC])
      (fun t =>
        t.regs.CX == 0x2 && t.regs.IP == 0x105) = true := by decide

/-- Vector CF26b of 95_test_vectors.md. -/
theorem test_loopne_2 :
    after (at_ { Regs.zero with CX := 0x3, CS := 0x6000, IP := 0x107 } { Flags.clear with ZF := true } [] [0xE0, 0xFC])
      (fun t =>
        t.regs.CX == 0x2 && t.regs.IP == 0x109) = true := by decide

/-- Vector CF25 of 95_test_vectors.md. -/
theorem test_loope :
    after (at_ { Regs.zero with CX := 0x3, CS := 0x6000, IP := 0x107 } { Flags.clear with ZF := true } [] [0xE1, 0xFC])
      (fun t =>
        t.regs.CX == 0x2 && t.regs.IP == 0x105) = true := by decide

/-- Vector CF25b of 95_test_vectors.md. -/
theorem test_loope_2 :
    after (at_ { Regs.zero with CX := 0x3, CS := 0x6000, IP := 0x107 } Flags.clear [] [0xE1, 0xFC])
      (fun t =>
        t.regs.CX == 0x2 && t.regs.IP == 0x109) = true := by decide

/-- Vector CF22 of 95_test_vectors.md. -/
theorem test_loop :
    after (at_ { Regs.zero with CX := 0x5, CS := 0x6000, IP := 0x107 } Flags.clear [] [0xE2, 0xFC])
      (fun t =>
        t.regs.CX == 0x4 && t.regs.IP == 0x105) = true := by decide

/-- Vector CF23 of 95_test_vectors.md. -/
theorem test_loop_2 :
    after (at_ { Regs.zero with CX := 0x1, CS := 0x6000, IP := 0x107 } Flags.clear [] [0xE2, 0xFC])
      (fun t =>
        t.regs.CX == 0x0 && t.regs.IP == 0x109) = true := by decide

/-- Vector CF210 of 95_test_vectors.md. -/
theorem test_jcxz :
    after (at_ { Regs.zero with CX := 0x0, CS := 0x6000, IP := 0x100 } Flags.clear [] [0xE3, 0x05])
      (fun t =>
        t.regs.IP == 0x107 && t.regs.CX == 0x0) = true := by decide

/-- Vector CF28 of 95_test_vectors.md. -/
theorem test_callRel16 :
    after (at_ { Regs.zero with SP := 0xFFFE, CS := 0x6000, SS := 0x1000, IP := 0x104 } Flags.clear [] [0xE8, 0x05, 0x00])
      (fun t =>
        t.regs.SP == 0xFFFC && t.regs.IP == 0x10C && t.mem.byteAt 0x1FFFC == 0x07 &&
        t.mem.byteAt 0x1FFFD == 0x01) = true := by decide

/-- Vector CF5 of 95_test_vectors.md. -/
theorem test_jmpRel16 :
    after (at_ { Regs.zero with CS := 0x6000, IP := 0x100 } Flags.clear [] [0xE9, 0x00, 0x10])
      (fun t =>
        t.regs.IP == 0x1103) = true := by decide

/-- Vector CF7 of 95_test_vectors.md. -/
theorem test_jmpPtr :
    after (at_ { Regs.zero with CS := 0x1000, IP := 0x100 } Flags.clear [] [0xEA, 0x00, 0x7C, 0x00, 0x00])
      (fun t =>
        t.regs.CS == 0x0 && t.regs.IP == 0x7C00) = true := by decide

/-- Vector CF1 of 95_test_vectors.md. -/
theorem test_jmpRel8 :
    after (at_ { Regs.zero with CS := 0x6000, IP := 0x7C06 } Flags.clear [] [0xEB, 0xFE])
      (fun t =>
        t.regs.IP == 0x7C06) = true := by decide

/-- From the rows of 95_test_vectors.md, part 2. -/
theorem test_cmc :
    after (at_ { Regs.zero with CS := 0x6000, IP := 0x100 } Flags.clear [] [0xF5])
      (fun t =>
        t.flags.CF && t.regs.IP == 0x101) = true := by decide

/-- Vector L9 of 95_test_vectors.md. -/
theorem test_testRm8Ib :
    after (at_ { Regs.zero with CS := 0x6000, IP := 0x100 } Flags.clear [(0x200, 0x0F)] [0xF6, 0x06, 0x00, 0x02, 0xF0])
      (fun t =>
        t.mem.byteAt 0x200 == 0x0F && t.flags.ZF && !t.flags.SF && t.flags.PF && !t.flags.CF && !t.flags.OF &&
        t.regs.IP == 0x105) = true := by decide

/-- Vector L11 of 95_test_vectors.md. -/
theorem test_notRm8 :
    after (at_ { Regs.zero with AX := 0x0, CS := 0x6000, IP := 0x100 } allSet [] [0xF6, 0xD0])
      (fun t =>
        t.regs.AX == 0xFF && t.flags.CF && t.flags.PF && t.flags.AF && t.flags.ZF && t.flags.SF && t.flags.OF &&
        t.flags.DF && t.flags.IF && t.flags.TF && t.regs.IP == 0x102) = true := by decide

/-- Vector A35 of 95_test_vectors.md. -/
theorem test_mulRm8 :
    after (at_ { Regs.zero with AX := 0xFF, BX := 0xFF, CS := 0x6000, IP := 0x100 } Flags.clear [] [0xF6, 0xE3])
      (fun t =>
        t.regs.AX == 0xFE01 && t.flags.CF && t.flags.OF && t.regs.IP == 0x102) = true := by decide

/-- Vector A42 of 95_test_vectors.md. -/
theorem test_divRm8 :
    after (at_ { Regs.zero with AX := 0xA, BX := 0x3, CS := 0x6000, IP := 0x100 } Flags.clear [] [0xF6, 0xF3])
      (fun t =>
        t.regs.AX == 0x103 && t.regs.IP == 0x102) = true := by decide

/-- Vector L10 of 95_test_vectors.md. -/
theorem test_notRm16 :
    after (at_ { Regs.zero with AX := 0xFF, CS := 0x6000, IP := 0x100 } allSet [] [0xF7, 0xD0])
      (fun t =>
        t.regs.AX == 0xFF00 && t.flags.CF && t.flags.PF && t.flags.AF && t.flags.ZF && t.flags.SF &&
        t.flags.OF && t.flags.DF && t.flags.IF && t.flags.TF && t.regs.IP == 0x102) = true := by decide

/-- Vector A38 of 95_test_vectors.md. -/
theorem test_mulRm16 :
    after (at_ { Regs.zero with AX := 0x1234, BX := 0x100, CS := 0x6000, IP := 0x100 } Flags.clear [] [0xF7, 0xE3])
      (fun t =>
        t.regs.DX == 0x12 && t.regs.AX == 0x3400 && t.flags.CF && t.flags.OF && t.regs.IP == 0x102) = true := by decide

/-- Vector A47 of 95_test_vectors.md. -/
theorem test_divRm16 :
    after (at_ { Regs.zero with AX := 0x0, BX := 0x2, DX := 0x1, CS := 0x6000, IP := 0x100 } Flags.clear [] [0xF7, 0xF3])
      (fun t =>
        t.regs.AX == 0x8000 && t.regs.DX == 0x0 && t.regs.IP == 0x102) = true := by decide

/-- From the rows of 95_test_vectors.md, part 2. -/
theorem test_clc :
    after (at_ { Regs.zero with CS := 0x6000, IP := 0x100 } { Flags.clear with CF := true } [] [0xF8])
      (fun t =>
        !t.flags.CF && t.regs.IP == 0x101) = true := by decide

/-- From the rows of 95_test_vectors.md, part 2. -/
theorem test_stc :
    after (at_ { Regs.zero with CS := 0x6000, IP := 0x100 } Flags.clear [] [0xF9])
      (fun t =>
        t.flags.CF && t.regs.IP == 0x101) = true := by decide

/-- From the rows of 95_test_vectors.md, part 2. -/
theorem test_cli :
    after (at_ { Regs.zero with CS := 0x6000, IP := 0x100 } { Flags.clear with IF := true } [] [0xFA])
      (fun t =>
        !t.flags.IF && t.regs.IP == 0x101) = true := by decide

/-- From the rows of 95_test_vectors.md, part 2. -/
theorem test_sti :
    after (at_ { Regs.zero with CS := 0x6000, IP := 0x100 } Flags.clear [] [0xFB])
      (fun t =>
        t.flags.IF && t.regs.IP == 0x101) = true := by decide

/-- From the rows of 95_test_vectors.md, part 2. -/
theorem test_cld :
    after (at_ { Regs.zero with CS := 0x6000, IP := 0x100 } { Flags.clear with DF := true } [] [0xFC])
      (fun t =>
        !t.flags.DF && t.regs.IP == 0x101) = true := by decide

/-- From the rows of 95_test_vectors.md, part 2. -/
theorem test_std :
    after (at_ { Regs.zero with CS := 0x6000, IP := 0x100 } Flags.clear [] [0xFD])
      (fun t =>
        t.flags.DF && t.regs.IP == 0x101) = true := by decide

/-- Vector A260 of 95_test_vectors.md. -/
theorem test_incRm8 :
    after (at_ { Regs.zero with AX := 0x7F, CS := 0x6000, IP := 0x100 } Flags.clear [] [0xFE, 0xC0])
      (fun t =>
        t.regs.AX == 0x80 && !t.flags.CF && !t.flags.PF && t.flags.AF && !t.flags.ZF && t.flags.SF &&
        t.flags.OF && t.regs.IP == 0x102) = true := by decide

/-- Vector A300 of 95_test_vectors.md. -/
theorem test_decRm8 :
    after (at_ { Regs.zero with BX := 0x80, CS := 0x6000, IP := 0x100 } Flags.clear [] [0xFE, 0xCB])
      (fun t =>
        t.regs.BX == 0x7F && !t.flags.CF && !t.flags.PF && t.flags.AF && !t.flags.ZF && !t.flags.SF &&
        t.flags.OF && t.regs.IP == 0x102) = true := by decide

/-- Vector A280 of 95_test_vectors.md. -/
theorem test_incRm16 :
    after (at_ { Regs.zero with AX := 0x7FFF, CS := 0x6000, IP := 0x100 } Flags.clear [] [0xFF, 0xC0])
      (fun t =>
        t.regs.AX == 0x8000 && !t.flags.CF && t.flags.PF && t.flags.AF && !t.flags.ZF && t.flags.SF &&
        t.flags.OF && t.regs.IP == 0x102) = true := by decide

/-- Vector A330 of 95_test_vectors.md. -/
theorem test_decRm16 :
    after (at_ { Regs.zero with BX := 0x8000, CS := 0x6000, IP := 0x100 } Flags.clear [] [0xFF, 0xCB])
      (fun t =>
        t.regs.BX == 0x7FFF && !t.flags.CF && t.flags.PF && t.flags.AF && !t.flags.ZF && !t.flags.SF &&
        t.flags.OF && t.regs.IP == 0x102) = true := by decide

/-- Vector CF34 of 95_test_vectors.md. -/
theorem test_callRm16 :
    after (at_ { Regs.zero with BX := 0x200, SP := 0x100, CS := 0x6000, IP := 0x100 } Flags.clear [] [0xFF, 0xD3])
      (fun t =>
        t.regs.IP == 0x200 && t.regs.SP == 0xFE && t.mem.byteAt 0xFE == 0x02 && t.mem.byteAt 0xFF == 0x01) = true := by decide

/-- From the rows of 95_test_vectors.md, part 2. -/
theorem test_callM16 :
    after (at_ { Regs.zero with SP := 0x100, CS := 0x3000, DS := 0x1000, IP := 0x100 } Flags.clear [(0x10300, 0x00), (0x10301, 0x01), (0x10302, 0x00), (0x10303, 0x20)] [0xFF, 0x1E, 0x00, 0x03])
      (fun t =>
        t.regs.CS == 0x2000 && t.regs.IP == 0x100 && t.mem.byteAt 0xFE == 0x00 && t.mem.byteAt 0xFF == 0x30 &&
        t.mem.byteAt 0xFC == 0x04 && t.mem.byteAt 0xFD == 0x01) = true := by decide

/-- Vector CF8 of 95_test_vectors.md. -/
theorem test_jmpRm16 :
    after (at_ { Regs.zero with BX := 0x1234, CS := 0x6000, IP := 0x100 } Flags.clear [] [0xFF, 0xE3])
      (fun t =>
        t.regs.IP == 0x1234) = true := by decide

/-- Vector CF9 of 95_test_vectors.md. -/
theorem test_jmpM16 :
    after (at_ { Regs.zero with CS := 0x6000, DS := 0x1000, IP := 0x100 } Flags.clear [(0x10300, 0x00), (0x10301, 0x01), (0x10302, 0x00), (0x10303, 0x20)] [0xFF, 0x2E, 0x00, 0x03])
      (fun t =>
        t.regs.CS == 0x2000 && t.regs.IP == 0x100) = true := by decide

/-- Vector T10b of 95_test_vectors.md. -/
theorem test_pushRm16 :
    after (at_ { Regs.zero with SP := 0x100, CS := 0x6000, IP := 0x100 } Flags.clear [] [0xFF, 0xF4])
      (fun t =>
        t.regs.SP == 0xFE && t.mem.byteAt 0xFE == 0xFE && t.mem.byteAt 0xFF == 0x00 && t.regs.IP == 0x102) = true := by decide

/-- A refused encoding of 95_test_vectors.md. -/
theorem test_fatal_F4 :
    after (at_ { Regs.zero with CS := 0x6000, IP := 0x100 } Flags.clear [] [0xF4])
      (fun t =>
        t.regs.IP == 0x100 && t.run_state == .stopped &&
        t.fatalError? == some (.unhandledInstruction [0xF4] 0x6000 0x100) && t.LAST_IP == 0x100) = true := by decide

/-- A refused encoding of 95_test_vectors.md. -/
theorem test_fatal_0F :
    after (at_ { Regs.zero with CS := 0x6000, IP := 0x100 } Flags.clear [] [0x0F])
      (fun t =>
        t.regs.IP == 0x100 && t.run_state == .stopped &&
        t.fatalError? == some (.unhandledInstruction [0x0F] 0x6000 0x100) && t.LAST_IP == 0x100) = true := by decide

/-- A refused encoding of 95_test_vectors.md. -/
theorem test_fatal_60 :
    after (at_ { Regs.zero with CS := 0x6000, IP := 0x100 } Flags.clear [] [0x60])
      (fun t =>
        t.regs.IP == 0x100 && t.run_state == .stopped &&
        t.fatalError? == some (.unhandledInstruction [0x60] 0x6000 0x100) && t.LAST_IP == 0x100) = true := by decide

/-- A refused encoding of 95_test_vectors.md. -/
theorem test_fatal_6F :
    after (at_ { Regs.zero with CS := 0x6000, IP := 0x100 } Flags.clear [] [0x6F])
      (fun t =>
        t.regs.IP == 0x100 && t.run_state == .stopped &&
        t.fatalError? == some (.unhandledInstruction [0x6F] 0x6000 0x100) && t.LAST_IP == 0x100) = true := by decide

/-- A refused encoding of 95_test_vectors.md. -/
theorem test_fatal_C0 :
    after (at_ { Regs.zero with CS := 0x6000, IP := 0x100 } Flags.clear [] [0xC0])
      (fun t =>
        t.regs.IP == 0x100 && t.run_state == .stopped &&
        t.fatalError? == some (.unhandledInstruction [0xC0] 0x6000 0x100) && t.LAST_IP == 0x100) = true := by decide

/-- A refused encoding of 95_test_vectors.md. -/
theorem test_fatal_C1 :
    after (at_ { Regs.zero with CS := 0x6000, IP := 0x100 } Flags.clear [] [0xC1])
      (fun t =>
        t.regs.IP == 0x100 && t.run_state == .stopped &&
        t.fatalError? == some (.unhandledInstruction [0xC1] 0x6000 0x100) && t.LAST_IP == 0x100) = true := by decide

/-! ## Interrupts and the host (95_test_vectors.md; 60_exceptions.md R340, R350 to R361, R372 to R374) -/

/-- The outside's answers that the tests use: no failure, a key, and the clock at 0x12345 ticks. -/
def someWorld : World :=
  { ioError := none, served := 0, keyComes := true, keyWaiting := false, scancode := 0x1E, ascii := 0x61, row := 3, column := 4
    ticks := 0x00012345, success := true, errorCode := 2, handle := 5, position := 0x00020001, carry := false, data := [1, 2]
    textWrites := [] }

/-- The machine of vector IN1, about to run `INT vector` with this AX; CF and IF set, and the outside's answer at hand. -/
def atInt (vector : Byte) (ax : Word) : State :=
  { at_ { Regs.zero with AX := ax, CS := 0x1000, SS := 0x1000, SP := 0xFFFE, IP := 0x100 } { Flags.clear with CF := true, IF := true }
      [] [0xCD, vector] with
    choices := [.conforming someWorld] }

/-- Vector IN1: a service that is done; the three words stay on the stack and IF stays clear (60_exceptions.md R341). -/
theorem test_intIb :
    after (atInt 0x10 0x0E41)
      (fun t => t.regs.SP == 0xFFF8 && t.mem.read16 0x1000 0xFFFC == 0xF203 && t.mem.read16 0x1000 0xFFFA == 0x1000 &&
        t.mem.read16 0x1000 0xFFF8 == 0x0102 && !t.flags.IF && t.flags.CF && t.regs.IP == 0x0102 &&
        t.host_log == [.backend (.ttyWrite 0x41)]) = true := by decide

/-- Vector IN2: a vector nobody serves is fatal, and everything is rolled back. -/
theorem test_intIb_fatal :
    after (atInt 0x80 0x1234)
      (fun t => t.regs.SP == 0xFFFE && t.flags.IF && t.regs.IP == 0x0100 && t.run_state == .stopped &&
        t.mem.read16 0x1000 0xFFFC == 0 && t.fatalError? == some (.unhandledInterrupt 0x80 0x12)) = true := by decide

/-- The ticks of `INT 1Ah`, AH=00 (60_exceptions.md R359). -/
theorem test_service_ticks : after (atInt 0x1A 0x0000) (fun t => t.regs.CX == 0x0001 && t.regs.DX == 0x2345) = true := by decide

/-- A key of `INT 16h`, AH=00 (60_exceptions.md R358). -/
theorem test_service_key : after (atInt 0x16 0x0000) (fun t => t.regs.AX == 0x1E61) = true := by decide

/-- No key for `INT 16h`, AH=01 (60_exceptions.md R358). -/
theorem test_service_peek : after (atInt 0x16 0x0100) (fun t => t.flags.ZF && t.regs.AX == 0x0100) = true := by decide

/-- A drive that fails at `INT 13h`, AH=02: CF set, the error code in AH (60_exceptions.md R357). -/
theorem test_service_disk :
    after { atInt 0x13 0x0201 with choices := [.conforming { someWorld with success := false }] }
      (fun t => t.flags.CF && t.reg8 .ah == 2) = true := by decide

/-- A file read by `INT 21h`, AH=3F: two bytes come (60_exceptions.md R361). -/
theorem test_service_read :
    after { atInt 0x21 0x3F00 with regs := { (atInt 0x21 0x3F00).regs with CX := 9, DX := 0x0300, BX := 5 } }
      (fun t => t.regs.AX == 2 && t.mem.byteAt 0x300 == 1 && t.mem.byteAt 0x301 == 2) = true := by decide

/-- A dollar string of `INT 21h`, AH=09 (60_exceptions.md R360). -/
theorem test_service_string :
    after { atInt 0x21 0x0900 with mem := (atInt 0x21 0x0900).mem.writeBytes 0 0x0200 [0x48, 0x69, 0x24],
                                   regs := { (atInt 0x21 0x0900).regs with DX := 0x0200 } }
      (fun t => t.host_log == [.backend (.ttyWrite 0x69), .backend (.ttyWrite 0x48)]) = true := by decide

/-- An unterminated string that ends in `HostIOError` after two characters (93_implementation_defined.md U11, log entry 12). -/
theorem test_string_cut_short :
    let m := Memory.writeBytes [] 0 0xFFFF [0x48, 0x69]
    (withString { someWorld with ioError := some "tty" } ((leadingBytes m 0 0xFFFF 2).map .ttyWrite) none fun _ => .unclaimed) =
      { answer := .hostIOError "tty", calls := [.ttyWrite 0x48, .ttyWrite 0x69] } := by decide

/-- Vector ST16: a `Stop()` after two of five iterations. -/
theorem test_stop_in_repetition :
    after { at_ { Regs.zero with SI := 0x10, DI := 0x20, CX := 5, CS := 0x6000, DS := 0x1000, ES := 0x2000, IP := 0x100 } Flags.clear
              [(0x10010, 0x48), (0x10011, 0x65), (0x10012, 0x6C)] [0xF3, 0xA4] with inbox := [[], [], [.stop]] }
      (fun t => t.regs.CX == 3 && t.regs.SI == 0x12 && t.mem.byteAt 0x20021 == 0x65 && t.mem.byteAt 0x20022 == 0 &&
        t.regs.IP == 0x102 && t.run_state == .stopped && t.pending == none) = true := by decide

/-- `Start()` at power-on, with no boot entry before it, starts nothing (10_state.md R48, 70_reset_and_hazards.md R390). -/
theorem test_start_at_power_on :
    after { State.reset with inbox := [[.registerCallback, .start]] }
      (fun t => t.run_state == .stopped && t.requested_state == .stopped && t.host_log == [.registered 0]) = true := by decide

/-- A boot entry, then `Start()` (60_exceptions.md R372). -/
theorem test_start :
    after { State.reset with inbox := [[.registerCallback, .bootCom 0x1000 (some [0x90]), .start]] }
      (fun t => t.run_state == .running && t.requested_state == .running &&
        t.host_log == [.stateChanged [0] .running, .registered 0]) = true := by decide

/-- A word of the opcode table placed by `withFetchWord` is what the next step runs. -/
theorem test_withFetchWord : after (State.reset.withFetchWord 16 0xC083) (fun t => t.regs.IP == 3 && t.flags.ZF) = true := by decide

/-! ## Witnesses: states and operands that meet the hypotheses of the statements -/

/-- A state like reset with these registers. -/
def withRegs (g : Regs) : State := { State.reset with regs := g }

/-- A running state, in the middle of an instruction with this prefix, with this CX. -/
def repeating (p : RepPrefix) (cx : Word) : State :=
  { State.reset with
    regs := { Regs.zero with CX := cx, DI := 0x20, ES := 0x2000 }
    run_state := .running
    requested_state := .running
    booted := true
    cur := { bytes := [0xF3, 0xA6], seg := none, rep := p } }

theorem witness_DecodeAfterEncode : (Instr.addRm8R8 (.mem (.based .bp (.d8 0))) .bl).wf = true := by decide

theorem witness_EncodeAfterDecode : decode [0x00, 0x5E, 0x00, 0x90] = .ok (.addRm8R8 (.mem (.based .bp (.d8 0))) .bl) [0x90] := by
  decide

theorem witness_RefusedEncodings :
    (0x26 : Byte) ∈ prefixBytes ∧ (0xF3 : Byte) ∈ prefixBytes ∧ (0x0F : Byte) ∈ unimplementedBytes ∧
      (0xF4 : Byte) ∈ unimplementedBytes ∧ (0x00 : Byte) ∉ prefixBytes ∧ (0x00 : Byte) ∉ unimplementedBytes ∧
      (0xFF : Byte) ∉ prefixBytes ∧ (0xFF : Byte) ∉ unimplementedBytes ∧
      (0xC0 : Byte).extractLsb' 6 2 = 3 ∧ (0xFF : Byte).extractLsb' 6 2 = 3 ∧ (0xD8 : Byte).extractLsb' 6 2 = 3 ∧
      (0xD8 : Byte).extractLsb' 3 3 = 3 ∧ (0xE8 : Byte).extractLsb' 6 2 = 3 ∧ (0xE8 : Byte).extractLsb' 3 3 = 5 ∧
      4 ≤ ((0x20 : Byte).extractLsb' 3 3).toNat ∧ 4 ≤ ((0xF8 : Byte).extractLsb' 3 3).toNat := by decide

theorem witness_canonical_memory : State.reset.mem.wf = true ∧ Memory.wf [(0, 1), (0xFFFFF, 0x80)] = true := by decide

theorem witness_OperandAddressAsStated :
    (repeating .none 0).cur.seg = none ∧
      ({ State.reset with cur := { InFlight.empty with seg := some .es } } : State).cur.seg = some .es := by decide

theorem witness_IncrementAndDecrement :
    State.reset.mem.wf = true ∧ (ArithOp.add = .add ∧ Instr.incR16 .sp = .incR16 .sp) ∧
      (ArithOp.sub = .sub ∧ Instr.decRm8 (.reg .ah) = .decRm8 (.reg .ah)) := by decide

theorem witness_UnsignedDivide :
    let s := withRegs { Regs.zero with AX := 0xFEFF, BX := 0xFF }
    let t := withRegs { Regs.zero with DX := 0xFFFE, AX := 0xFFFF, BX := 0xFFFF }
    ((s.rm8 (.reg .bl)).toNat ≠ 0 ∧ s.regs.AX.toNat / (s.rm8 (.reg .bl)).toNat ≤ 0xFF) ∧
      ((t.rm16 (.reg .bx)).toNat ≠ 0 ∧
        (t.regs.DX.toNat * 2 ^ 16 + t.regs.AX.toNat) / (t.rm16 (.reg .bx)).toNat ≤ 0xFFFF) := by decide

theorem witness_DivideErrorDispatchesZero :
    let s := withRegs { Regs.zero with AX := 0x0100, BX := 0x0001 }
    let t := withRegs { Regs.zero with DX := 0x0001, BX := 0x0001 }
    (s.rm8 (.reg .bh)).toNat = 0 ∧ 0xFF < s.regs.AX.toNat / (s.rm8 (.reg .bl)).toNat ∧ (t.rm16 (.reg .cx)).toNat = 0 ∧
      0xFFFF < (t.regs.DX.toNat * 2 ^ 16 + t.regs.AX.toNat) / (t.rm16 (.reg .bx)).toNat := by decide

theorem witness_TestWritesFlagsOnly :
    (∃ r, Instr.testRm8R8 (.reg .al) .bl = .testRm8R8 (.reg .al) r ∧ (0 : Byte) = State.reset.reg8 r) ∧
      Instr.testAxIw 0x8000 = .testAxIw 0x8000 := ⟨⟨.bl, by decide, by decide⟩, rfl⟩

theorem witness_Shifts :
    let s := withRegs { Regs.zero with CX := 0x0020 }
    let t := withRegs { Regs.zero with CX := 0x001F }
    s.mem.wf = true ∧ 0 = (s.reg8 .cl).toNat % 32 ∧ t.mem.wf = true ∧ 31 = (t.reg8 .cl).toNat % 32 ∧ 1 = (if false then 0 else 1) := by
  decide

theorem witness_ShiftsPastTheWidth :
    let s := fun cx : Word => withRegs { Regs.zero with CX := cx }
    Reg8.ch ≠ .cl ∧ 8 < ((s 9).reg8 .cl).toNat % 32 ∧ 8 < ((s 31).reg8 .cl).toNat % 32 ∧ 8 ≤ ((s 8).reg8 .cl).toNat % 32 ∧
      ((s 8).reg8 .cl).toNat % 32 = 8 ∧ ((s 16).reg8 .cl).toNat % 32 = 16 ∧ ((s 24).reg8 .cl).toNat % 32 = 24 ∧
      ((s 41).reg8 .cl).toNat % 32 = 9 := by decide

theorem witness_StringMovesOneElement : State.reset.mem.wf = true ∧ State.reset.cur.rep = .none := by decide

theorem witness_StringComparesOneElement : State.reset.cur.rep = .none := by decide

/-- A repetition that has nothing to do, one that a compare ends, and one that goes on. -/
theorem witness_RepetitionUnrolls :
    isStringInstr .cmpsb = true ∧ (repeating .rep 0).cur.rep ≠ .none ∧ Quiet (repeating .rep 0) ∧ (repeating .rep 0).regs.CX = 0 ∧
      Quiet (repeating .repNZ 1) ∧ (repeating .repNZ 1).regs.CX ≠ 0 ∧ (comparesElements .cmpsb = true ∧ zfMismatch .repNZ true) ∧
      ¬(comparesElements .cmpsb = true ∧ zfMismatch .rep true) ∧ ¬(comparesElements .movsb = true ∧ zfMismatch .rep false) :=
  ⟨rfl, by decide, ⟨rfl, rfl, rfl⟩, rfl, ⟨rfl, rfl, rfl⟩, by decide, ⟨rfl, .inr ⟨rfl, rfl⟩⟩,
    fun h => h.2.elim (fun e => nomatch e.2) (fun e => nomatch e.1), fun h => nomatch h.1⟩

theorem witness_RepetitionEnds :
    isStringInstr .stosw = true ∧ (repeating .repNZ 0xFFFF).cur.rep ≠ .none ∧ Quiet (repeating .repNZ 0xFFFF) ∧
      (repeating .repNZ 0xFFFF).mem.wf = true ∧ (0x20003 : Phys) ∉ (repeating .rep 1).stringStored .stosb ∧
      (0x20021 : Phys) ∈ (repeating .rep 1).stringStored .stosw :=
  ⟨rfl, by decide, ⟨rfl, rfl, rfl⟩, rfl, by decide, by decide⟩

theorem witness_RepeatedStoreFills :
    (repeating .rep 3).mem.wf = true ∧ (repeating .rep 3).cur.rep ≠ .none ∧ Quiet (repeating .rep 3) ∧
      (repeating .rep 3).flags.DF = false := ⟨rfl, by decide, ⟨rfl, rfl, rfl⟩, rfl⟩

theorem witness_StopAbandonsRepetition :
    let s := { repeating .rep 3 with inbox := [[.stop]] }
    isStringInstr .movsb = true ∧ s.cur.rep ≠ .none ∧ s.regs.CX ≠ 0 ∧ s.run_state = .running ∧ s.requested_state = .running ∧
      s.inbox = [.stop] :: [] ∧ (∃ t, exec .movsb { s with cur := { s.cur with rep := .none } } = .next t) ∧
      comparesElements .movsb = false := ⟨rfl, by decide, by decide, rfl, rfl, rfl, ⟨_, rfl⟩, rfl⟩

theorem witness_PauseInRepetitionIsTransparent :
    let s := repeating .rep 3
    isStringInstr .movsb = true ∧ s.cur.rep ≠ .none ∧ Quiet s ∧ (∃ t, exec .movsb s = .next t) ∧
      ∃ u, exec .movsb { s with inbox := [[.setPaused true], [.setPaused false]] } = .next u ∧ u.run_state = .paused :=
  ⟨rfl, by decide, ⟨rfl, rfl, rfl⟩, ⟨_, rfl⟩, _, rfl, rfl⟩

theorem witness_MoveRegistersMemoryImmediates :
    (∃ r rm, Rm8.reg .ah = .reg r ∧ Instr.movR8Rm8 .ah (.mem (.direct 5)) = .movR8Rm8 r rm ∧ (0 : Byte) = State.reset.rm8 rm) ∧
      ∃ r, Rm16.reg .sp = .reg r ∧ Instr.movR16Iw .sp 7 = .movR16Iw r 7 :=
  ⟨⟨.ah, .mem (.direct 5), rfl, rfl, rfl⟩, .sp, rfl, rfl⟩

theorem witness_PushesStoreOneWord :
    (∃ r, Instr.pushR16 .sp = .pushR16 r ∧ (0xFFFE : Word) = (if r = .sp then State.reset.regs.SP - 2 else State.reset.reg16 r)) ∧
      (∃ m, Instr.pushRm16 (.mem (.direct 8)) = .pushRm16 (.mem m) ∧
        (0 : Word) = State.reset.mem.read16 (State.reset.memSeg m) (State.reset.ea m)) ∧
      (Instr.pushf = .pushf ∧ (0xF002 : Word) = State.reset.flags.pack) :=
  ⟨⟨.sp, rfl, by decide⟩, ⟨.direct 8, rfl, by decide⟩, rfl, by decide⟩

theorem witness_PopsLoadOneWord :
    State.reset.mem.wf = true ∧ (0 : Word) = State.reset.mem.read16 State.reset.regs.SS State.reset.regs.SP ∧
      (∃ r, Rm16.reg .sp = .reg r ∧ Instr.popR16 .sp = .popR16 r) ∧ (Instr.popSs = .popSs ∧ SReg.ss = .ss) :=
  ⟨rfl, by decide, ⟨.sp, rfl, rfl⟩, rfl, rfl⟩

theorem witness_PushThenPopMovesTheWord : State.reset.mem.wf = true ∧ Reg16.ax ≠ .sp ∧ Reg16.bx ≠ .sp := by decide

theorem witness_ConditionalJumps :
    Cond.Taken .g Flags.clear ∧ ¬Cond.Taken .l Flags.clear ∧ Cond.Taken .be { Flags.clear with ZF := true } ∧
      State.reset.regs.CX = 0 ∧ (repeating .none 1).regs.CX ≠ 0 :=
  ⟨fun h => h.elim (fun e => e rfl) (fun e => nomatch e), fun h => h rfl, .inr rfl, rfl, by decide⟩

theorem witness_LoopsCountDown : (0xFFFF : Word) = BitVec.ofInt 16 ((State.reset.regs.CX.toNat : Int) - 1) := by decide

theorem witness_CallsPushTheReturnAddress :
    (∃ rel : Word, Instr.callRel16 0xFFFF = .callRel16 rel ∧
      (0xFFFF : Word) = BitVec.ofInt 16 (State.reset.regs.IP.toNat + rel.toInt)) ∧
      ∃ m, Instr.callM16 (.direct 4) = .callM16 m ∧ (0 : Word) = State.reset.mem.read16 (State.reset.memSeg m) (State.reset.ea m) ∧
        (0 : Word) = State.reset.mem.read16 (State.reset.memSeg m) (State.reset.ea m + 2) :=
  ⟨⟨0xFFFF, rfl, by decide⟩, .direct 4, rfl, by decide, by decide⟩

theorem witness_ReturnsPopTheAddress :
    (0 : Word) = State.reset.mem.read16 State.reset.regs.SS State.reset.regs.SP ∧
      (0 : Word) = State.reset.mem.read16 State.reset.regs.SS (State.reset.regs.SP + 2) := by decide

/-- The four answers. -/
theorem witness_InterruptsByAnswer :
    (∃ v, Answer.handled v = (intLayer 0x1A true (atInt 0x1A 0).nextChoice 0 (atInt 0x1A 0).enterInterrupt.view).answer) ∧
      Answer.terminate = (intLayer 0x21 true (atInt 0x21 0x4C00).nextChoice 0 (atInt 0x21 0x4C00).enterInterrupt.view).answer ∧
      Answer.notHandled = (intLayer 0x80 true (atInt 0x80 0).nextChoice 0 (atInt 0x80 0).enterInterrupt.view).answer ∧
      Answer.hostIOError "disk" =
        (intLayer 0x13 true (.conforming { someWorld with ioError := some "disk" }) 0 (atInt 0x13 0x0201).enterInterrupt.view).answer :=
  ⟨⟨_, rfl⟩, rfl, rfl, rfl⟩

theorem witness_InterruptReturnPopsThreeWords :
    (0 : Word) = State.reset.mem.read16 State.reset.regs.SS (State.reset.regs.SP + 4) := by decide

theorem witness_ConformingLayerFrame :
    (∃ u, Answer.handled u = (intLayer 0x10 true (.conforming someWorld) 0 (atInt 0x10 0x0E41).view).answer) ∧
      ((0x10 : Byte), (0x01 : Byte)) ∉ servedPairs ∧ ((0x80 : Byte), (0x00 : Byte)) ∉ servedPairs ∧
      Answer.notHandled = (intLayer 0x21 false (.conforming someWorld) 0 (atInt 0x21 0x3000).view).answer ∧
      (atInt 0x10 0x0E41).view.mem.wf = true ∧ ¬InServiceBuffer 0x10 (atInt 0x10 0x0E41).view 0xB8FA0 ∧
      InServiceBuffer 0x10 (atInt 0x10 0x0E41).view 0xB8F9F :=
  ⟨⟨_, rfl⟩, by decide, by decide, rfl, by decide,
    fun h => h.elim (fun h => absurd h.2.2 (by decide)) (fun h => h.elim (fun h => absurd h.1 (by decide)) fun h => absurd h.1 (by decide)),
    .inl ⟨rfl, by decide, by decide⟩⟩

theorem witness_DocumentedServices :
    (atInt 0x21 0x3000).choices = .conforming someWorld :: [] ∧ someWorld.ioError = none ∧ (atInt 0x21 0x3000).MSDOS_ENABLED = true ∧
      (∀ ah ∈ [0x00, 0x01, 0x02, 0x03, 0x06, 0x09, 0x0A, 0x0E, 0x19, 0x30, 0x3D, 0x3F, 0x42, 0x4C],
        (atInt 0x21 (BitVec.ofNat 16 (ah * 256))).reg8 .ah = BitVec.ofNat 8 ah) ∧
      someWorld.success = true ∧ ({ someWorld with success := false } : World).success = false ∧ someWorld.keyComes = true ∧
      someWorld.keyWaiting = false ∧ ({ someWorld with keyWaiting := true } : World).keyWaiting = true ∧
      (atInt 0x13 0x02FF).mem.wf = true ∧ 1 < ((atInt 0x13 0x02FF).reg8 .al).toNat * 512 ∧ 1 < someWorld.data.length ∧
      ((atInt 0x13 0x0280).reg8 .al).toNat * 512 ≤ 65536 + 1 := by decide

/-- The strings of the services, in a state whose data segment lies away from the stack. -/
theorem witness_DocumentedServices_strings :
    let s := { atInt 0x21 0x0900 with mem := (atInt 0x21 0x0900).mem.writeBytes 0 0x0200 [0x48, 0x24, 0x41, 0x00],
                                      regs := { (atInt 0x21 0x0900).regs with DX := 0x0200 } }
    let t := { s with regs := { s.regs with AX := 0x3D00 } }
    s.reg8 .ah = 0x09 ∧ [(0x48 : Byte)].length < 65536 ∧ (0x24 : Byte) ∉ [(0x48 : Byte)] ∧
      (∀ k : Nat, k < 1 → s.enterInterrupt.mem.read8 s.regs.DS (s.regs.DX + BitVec.ofNat 16 k) = [(0x48 : Byte)].getD k 0) ∧
      s.enterInterrupt.mem.read8 s.regs.DS (s.regs.DX + BitVec.ofNat 16 1) = 0x24 ∧
      t.reg8 .ah = 0x3D ∧ (0 : Byte) ∉ [(0x48 : Byte), 0x24, 0x41] ∧
      (∀ k : Nat, k < 3 → t.enterInterrupt.mem.read8 t.regs.DS (t.regs.DX + BitVec.ofNat 16 k) = [(0x48 : Byte), 0x24, 0x41].getD k 0) ∧
      t.enterInterrupt.mem.read8 t.regs.DS (t.regs.DX + BitVec.ofNat 16 3) = 0 := by decide

theorem witness_PrefixesAccumulate : ∀ p ∈ [Instr.prefixEs, .prefixRepnz, .prefixRep, .prefixDs], p.isPrefix = true := by decide

theorem witness_RefusedEncodingsAreFatal :
    Instr.unimplF4.decodeError? = some .instruction ∧ (Instr.unimplF6Sub3 3 0).decodeError? = some .subopcode := by decide

/-- The invariant at reset, and in a pause in the middle of a repetition. -/
theorem witness_InvariantKeptByEveryStep :
    Inv State.reset ∧ (∃ t, step State.reset = .next t) ∧
      Inv { repeating .rep 2 with pending := some .movsb, run_state := .paused } :=
  ⟨⟨rfl, fun _ e => (nomatch e), fun _ => rfl, fun _ => rfl, fun e => absurd rfl e, fun _ e => (nomatch e), List.nodup_nil⟩, ⟨_, rfl⟩,
    ⟨rfl, fun i e => by injection e with e; subst e; exact ⟨rfl, rfl, by decide⟩, fun e => (nomatch e), fun e => (nomatch e),
      fun _ => rfl, fun _ e => (nomatch e), List.nodup_nil⟩⟩

/-- `F3 A4` in a running machine. -/
theorem witness_StepRunsTheDecodedInstruction :
    let s := at_ { Regs.zero with CS := 0x1000, IP := 0xFFFF } Flags.clear [] [0xF3, 0xA4]
    s.run_state ≠ .stopped ∧ s.suspend = s ∧ s.run_state = .running ∧ s.pending = none ∧ (∀ p ∈ [Instr.prefixRep], p.isPrefix = true) ∧
      Instr.movsb.isPrefix = false ∧ Instr.movsb.wf = true ∧ [(0xF3 : Byte), 0xA4] = [Instr.prefixRep].flatMap encode ++ encode .movsb ∧
      ∀ k : Nat, k < 2 → s.mem.read8 s.regs.CS (s.regs.IP + BitVec.ofNat 16 k) = [(0xF3 : Byte), 0xA4].getD k 0 := by decide

/-- A repetition that a pause has interrupted, and that goes on. -/
theorem witness_StepRunsTheDecodedInstruction_resumed :
    let s := { repeating .rep 2 with run_state := .paused, requested_state := .paused, pending := some .movsb, inbox := [[.setPaused false]] }
    s.run_state ≠ .stopped ∧ s.suspend.run_state = .running ∧ s.suspend.pending = some .movsb ∧
      ∃ t, exec .movsb { s.suspend with pending := none } = .next t := ⟨by decide, rfl, rfl, _, rfl⟩

theorem witness_OnlyDispatchesCanStop : dispatches .clc = false ∧ dispatches (.pushRm16 (.reg .sp)) = false := by decide

/-- `HLT` is refused: a fatal tick, in a step that takes a call of the host first. -/
theorem witness_FatalTickRollsBack :
    let s := { at_ { Regs.zero with CS := 0x1000 } Flags.clear [] [0xF4] with inbox := [[.registerCallback]] }
    s.mem.wf = true ∧ s.pending = none ∧ s.cur = InFlight.empty ∧ s.callbacks = [] ∧ s.run_state = .running ∧
      ∃ t, step s = .next t ∧ t.host_log ≠ s.suspend.host_log ∧ t.fatalError? = some (.unhandledInstruction [0xF4] 0x1000 0) :=
  ⟨by decide, rfl, rfl, rfl, rfl, _, rfl, by decide, by decide⟩

theorem witness_LastRegistersHoldTheInstruction :
    let s := at_ { Regs.zero with CS := 0x1000 } Flags.clear [] [0xF9]
    s.pending = none ∧ Quiet s ∧ (∃ t, step s = .next t) ∧ ∃ t, exec .stc s = .next t := ⟨rfl, ⟨rfl, rfl, rfl⟩, ⟨_, rfl⟩, _, rfl⟩

theorem witness_WritersOfDirectionAndCodeSegment :
    let s := repeating .none 0
    Quiet s ∧ (∃ t, exec .std s = .next t ∧ t.flags.DF ≠ s.flags.DF) ∧
      (∃ t, exec (.jmpPtr 0 0x1234) s = .next t ∧ t.regs.CS ≠ s.regs.CS) ∧ dispatches .std = false ∧
      Instr.std.decodeError? = none := ⟨⟨rfl, rfl, rfl⟩, ⟨_, rfl, by decide⟩, ⟨_, rfl, by decide⟩, rfl, rfl⟩

/-- A machine that never had an image, one that has one, and one that is Paused. -/
theorem witness_RunStateFollowsTheHost :
    let p := { repeating .none 0 with run_state := .paused, requested_state := .paused, inbox := [[.start, .setPaused true]] }
    State.reset.run_state = .stopped ∧ State.reset.booted = false ∧ (∀ c ∈ State.reset.inbox.headD [], (∀ b, c ≠ .bootFloppy b) ∧ ∀ g b, c ≠ .bootCom g b) ∧
      p.run_state = .paused ∧ p.requested_state = .paused ∧ ∀ c ∈ p.inbox.headD [], c ≠ .stop ∧ c ≠ .setPaused false :=
  ⟨rfl, rfl, fun _ h => (nomatch h), rfl, rfl, by decide⟩

/-- Each call of the host, in a state that takes it. -/
theorem witness_RunStateFollowsTheHost_calls :
    let r := repeating .none 0
    let p := { r with run_state := .paused, requested_state := .paused }
    let b := { State.reset with booted := true, inbox := [[.start]] }
    b.run_state = .stopped ∧ b.booted = true ∧ b.inbox = [.start] :: [] ∧ ({ b with booted := false } : State).booted = false ∧
    State.reset.run_state = .stopped ∧ State.reset.requested_state = .stopped ∧ r.run_state = .running ∧ r.requested_state = .running ∧
      p.run_state = .paused ∧ p.requested_state = .paused ∧ r.run_state ≠ .stopped ∧ p.run_state ≠ .stopped ∧
      ({ p with inbox := [[.stop, .setPaused false]] } : State).inbox = [.stop, .setPaused false] :: [] := by decide

/-- A `Start()` that finds the machine Running does nothing; a callback registered, then removed (60_exceptions.md R372, R376). -/
theorem test_start_running :
    after { at_ Regs.zero Flags.clear [] [0xF9] with inbox := [[.start, .registerCallback, .registerCallback, .unregisterCallback 0]] }
      (fun t => t.flags.CF && t.run_state == .running && t.callbacks == [1] && t.host_log == [.registered 1, .registered 0]) = true := by
  decide

theorem witness_BootComLoadsTheImage :
    let s := { State.reset with inbox := [[.bootCom 0x1000 (some [0x90])]] }
    s.run_state = .stopped ∧ s.inbox = [.bootCom 0x1000 (some [0x90])] :: [] ∧ [(0x90 : Byte)].length ≤ 0xFF00 ∧
      0xFF00 < (List.replicate 0xFF01 (0 : Byte)).length ∧ (repeating .none 0).run_state ≠ .stopped :=
  ⟨rfl, rfl, by decide, by rw [List.length_replicate]; decide, by decide⟩

theorem witness_BootFloppyLoadsTheSector :
    let good := List.replicate 510 (0 : Byte) ++ [0x55, 0xAA]
    let bad := List.replicate 512 (0 : Byte)
    512 ≤ good.length ∧ good.getD 0x1FE 0 = 0x55 ∧ good.getD 0x1FF 0 = 0xAA ∧ 512 ≤ bad.length ∧ bad.getD 0x1FE 0 ≠ 0x55 ∧
      State.reset.run_state = .stopped ∧ [(0x55 : Byte), 0xAA].length < 512 ∧ (repeating .none 0).run_state ≠ .stopped := by
  refine ⟨?_, ?_, ?_, ?_, ?_, rfl, by decide, by decide⟩
  · rw [List.length_append, List.length_replicate]; decide
  · rw [List.getD_eq_getElem?_getD, List.getElem?_append_right (by rw [List.length_replicate]), List.length_replicate]; rfl
  · rw [List.getD_eq_getElem?_getD, List.getElem?_append_right (by rw [List.length_replicate]; decide), List.length_replicate]; rfl
  · rw [List.length_replicate]
  · rw [List.getD_eq_getElem?_getD, List.getElem?_replicate]; decide

end Sys2Proof.Tests
end

section
/-! PROOFS. The byte registers as views of the general registers (10_state.md R21). -/

namespace Sys2Proof.Machine

/-- Bit `i` of the mask of the high byte. -/
theorem getLsbD_highMask {i : Nat} (h : i < 16) : (0xFF00 : Word).getLsbD i = !decide (i < 8) := by
  have hm : (0xFF00 : Word) = BitVec.allOnes 16 <<< 8 := rfl
  rw [hm, BitVec.getLsbD_shiftLeft, BitVec.getLsbD_allOnes]
  simp [h, show i - 8 < 16 by omega]

/-- Bit `i` of the mask of the low byte, in the form of the statement, where the numeral is a natural number cast to a word. -/
theorem getLsbD_lowMask (i : Nat) : ((0x00FF : Nat) : Word).getLsbD i = decide (i < 8) := by
  have hm : ((0x00FF : Nat) : Word) = (BitVec.allOnes 8).setWidth 16 := rfl
  rw [hm, BitVec.getLsbD_setWidth, BitVec.getLsbD_allOnes]
  simp only [Bool.and_eq_right_iff_imp, decide_eq_true_eq]
  omega

/-- Replacing the low byte of a word, by mask (10_state.md R21). -/
theorem joinBytes_hiByte_eq_mask (w : Word) (v : Byte) : joinBytes v (hiByte w) = (w &&& 0xFF00) ||| v.setWidth 16 := by
  apply BitVec.eq_of_getLsbD_eq
  intro i hi
  rw [getLsbD_joinBytes, BitVec.getLsbD_or, BitVec.getLsbD_and, getLsbD_highMask hi, BitVec.getLsbD_setWidth]
  by_cases h : i < 8
  · simp [h, hi]
  · have hv : v.getLsbD i = false := BitVec.getLsbD_of_ge v i (by omega)
    simp [h, hv, hiByte, show 8 + (i - 8) = i by omega, show i - 8 < 8 by omega]

/-- Replacing the high byte of a word, by mask (10_state.md R21). -/
theorem joinBytes_loByte_eq_mask (w : Word) (v : Byte) :
    joinBytes (loByte w) v = (w &&& ((0x00FF : Nat) : Word)) ||| (v.setWidth 16 <<< 8) := by
  apply BitVec.eq_of_getLsbD_eq
  intro i hi
  rw [getLsbD_joinBytes, BitVec.getLsbD_or, BitVec.getLsbD_and, getLsbD_lowMask, BitVec.getLsbD_shiftLeft,
    BitVec.getLsbD_setWidth]
  by_cases h : i < 8
  · simp [h, loByte]
  · simp [h, hi, show i - 8 < 16 by omega]

/-- Settles O5: a read is the low or the high byte of its word as a number; a write joins the new half to the kept one, which is the
masked word. -/
theorem byteViewsAliasWords : Obligations.ByteViewsAliasWords := by
  intro g v
  refine ⟨toNat_loByte _, toNat_hiByte _, toNat_loByte _, toNat_hiByte _, toNat_loByte _, toNat_hiByte _,
    toNat_loByte _, toNat_hiByte _, ?_⟩
  simp only [Regs.set8, joinBytes_hiByte_eq_mask, joinBytes_loByte_eq_mask, and_self]

end Sys2Proof.Machine
end

section
/-! PROOFS. Memory accesses in the numbers of 20_memory.md R62 to R66. -/

namespace Sys2Proof.Machine

/-- Reading a byte, as a number, after a word write (20_memory.md R66). The first byte is asked for first here, which is the order of
the statement; the two bytes of a word never coincide, so that the order does not matter. -/
theorem Memory.toNat_byteAt_setWordAt (m : Memory) (p a : Phys) (v : Word) (h : m.wf = true) :
    ((m.setWordAt p v).byteAt a).toNat =
      if a = p then v.toNat % 256 else if a = p + 1 then v.toNat / 256 else (m.byteAt a).toNat := by
  rw [Memory.byteAt_setWordAt m p a v h]
  by_cases first : a = p
  · have second : a ≠ p + 1 := fun e => phys_succ_ne p (e.symm.trans first)
    rw [if_neg second, if_pos first, if_pos first, toNat_loByte]
  · rw [if_neg first, if_neg first, apply_ite BitVec.toNat, toNat_hiByte]

/-- Settles O7: the address is the sum modulo 2^20, a word read joins the two bytes, and a write is read back at its own bytes only. -/
theorem memoryAccessesAsStated : Obligations.MemoryAccessesAsStated := by
  intro m seg off hwf
  exact ⟨toNat_phys seg off, toNat_joinBytes _ _, fun v a => Memory.byteAt_setByteAt m (phys seg off) a v hwf,
    fun v a => Memory.toNat_byteAt_setWordAt m (phys seg off) a v hwf⟩

end Sys2Proof.Machine
end

section
/-! PROOFS. NOT is its own inverse (41_logical.md R175): what was read is written back to where it was read. -/

namespace Sys2Proof.Machine

/-! ## Writing back what was read -/

/-- A byte register that gets its old value back leaves the register file as it was. -/
theorem Regs.set8_set8_get8 (g : Regs) (r : Reg8) (v : Byte) : (g.set8 r v).set8 r (g.get8 r) = g := by
  cases r <;> simp [Regs.set8, Regs.get8]

/-- A word register that gets its old value back leaves the register file as it was. -/
theorem Regs.set16_set16_get16 (g : Regs) (r : Reg16) (v : Word) : (g.set16 r v).set16 r (g.get16 r) = g := by
  cases r <;> rfl

/-- A byte that gets its old value back leaves memory as it was, as a list too: both lists are canonical. -/
theorem Memory.setByteAt_setByteAt_byteAt (m : Memory) (p : Phys) (v : Byte) (h : m.wf = true) :
    (m.setByteAt p v).setByteAt p (m.byteAt p) = m := by
  have hv : (m.setByteAt p v).wf = true := Memory.wf_setByteAt m p v h
  refine Memory.ext_of_byteAt _ _ (Memory.wf_setByteAt _ _ _ hv) h fun a => ?_
  rw [Memory.byteAt_setByteAt _ _ _ _ hv, Memory.byteAt_setByteAt _ _ _ _ h]
  split
  next ha => rw [ha]
  next => rfl

/-- A word that gets its old value back leaves memory as it was, as a list too: both lists are canonical. -/
theorem Memory.setWordAt_setWordAt_wordAt (m : Memory) (p : Phys) (v : Word) (h : m.wf = true) :
    (m.setWordAt p v).setWordAt p (m.wordAt p) = m := by
  have hv : (m.setWordAt p v).wf = true := Memory.wf_setWordAt m p v h
  refine Memory.ext_of_byteAt _ _ (Memory.wf_setWordAt _ _ _ hv) h fun a => ?_
  rw [Memory.byteAt_setWordAt _ _ _ _ hv, Memory.byteAt_setWordAt _ _ _ _ h, Memory.wordAt, hiByte_joinBytes, loByte_joinBytes]
  split
  next ha => rw [ha]
  next =>
    split
    next ha => rw [ha]
    next => rfl

/-- A byte operand that gets its old value back leaves the state as it was. -/
theorem put8_put8_get8 (s : State) (l : Loc8) (v : Byte) (h : s.mem.wf = true) : (s.put8 l v).put8 l (s.get8 l) = s := by
  cases l with
  | reg r => simp only [State.put8, State.get8, State.reg8, State.setReg8, Regs.set8_set8_get8]
  | mem p => simp only [State.put8, State.get8, Memory.setByteAt_setByteAt_byteAt _ _ _ h]

/-- A word operand that gets its old value back leaves the state as it was. -/
theorem put16_put16_get16 (s : State) (l : Loc16) (v : Word) (h : s.mem.wf = true) : (s.put16 l v).put16 l (s.get16 l) = s := by
  cases l with
  | reg r => simp only [State.put16, State.get16, State.reg16, State.setReg16, Regs.set16_set16_get16]
  | mem p => simp only [State.put16, State.get16, Memory.setWordAt_setWordAt_wordAt _ _ _ h]

/-- Writing a byte destination does not move it: a register operand has no address, a memory operand's address depends on registers and
the segment override only. -/
theorem loc8_put8_loc8 (s : State) (rm : Rm8) (v : Byte) : (s.put8 (s.loc8 rm) v).loc8 rm = s.loc8 rm := by
  cases rm with
  | reg r => rfl
  | mem m => rfl

/-- Writing a word destination does not move it. -/
theorem loc16_put16_loc16 (s : State) (rm : Rm16) (v : Word) : (s.put16 (s.loc16 rm) v).loc16 rm = s.loc16 rm := by
  cases rm with
  | reg r => rfl
  | mem m => rfl

/-! ## NOT -/

/-- NOT of a byte, and NOT again. -/
theorem modify8_notAlu_twice (s : State) (rm : Rm8) (h : s.mem.wf = true) :
    (s.modify8 rm notAlu).modify8 rm notAlu = s := by
  simp only [State.modify8, State.rm8, notAlu, loc8_put8_loc8, get8_put8 _ _ _ h, BitVec.not_not, put8_put8_get8 _ _ _ h]

/-- NOT of a word, and NOT again. -/
theorem modify16_notAlu_twice (s : State) (rm : Rm16) (h : s.mem.wf = true) :
    (s.modify16 rm notAlu).modify16 rm notAlu = s := by
  simp only [State.modify16, State.rm16, notAlu, loc16_put16_loc16, get16_put16 _ _ _ h, BitVec.not_not,
    put16_put16_get16 _ _ _ h]

/-- NOT of a byte: the complement as a number, the frame, and the way back. -/
theorem exec_notRm8 (s : State) (rm : Rm8) (h : s.mem.wf = true) :
    ∃ t, exec (.notRm8 rm) s = .next t ∧ (t.get8 (s.loc8 rm)).toNat = 2 ^ 8 - 1 - (s.rm8 rm).toNat ∧
      Frame s t rm.parts [] (s.stored8 rm) ∧ exec (.notRm8 rm) t = .next s := by
  obtain ⟨hvalue, -, hframe⟩ := modify8_spec s rm notAlu [] h rfl (Frame.refl s)
  exact ⟨s.modify8 rm notAlu, rfl, (congrArg BitVec.toNat hvalue).trans BitVec.toNat_not, hframe,
    congrArg Host.Outcome.next (modify8_notAlu_twice s rm h)⟩

/-- NOT of a word: the complement as a number, the frame, and the way back. -/
theorem exec_notRm16 (s : State) (rm : Rm16) (h : s.mem.wf = true) :
    ∃ t, exec (.notRm16 rm) s = .next t ∧ (t.get16 (s.loc16 rm)).toNat = 2 ^ 16 - 1 - (s.rm16 rm).toNat ∧
      Frame s t rm.parts [] (s.stored16 rm) ∧ exec (.notRm16 rm) t = .next s := by
  obtain ⟨hvalue, -, hframe⟩ := modify16_spec s rm notAlu [] h rfl (Frame.refl s)
  exact ⟨s.modify16 rm notAlu, rfl, (congrArg BitVec.toNat hvalue).trans BitVec.toNat_not, hframe,
    congrArg Host.Outcome.next (modify16_notAlu_twice s rm h)⟩

/-- Settles O19: the destination stays where it is, so the second NOT complements what the first one wrote and writes back what the
first one read. -/
theorem notIsAnInvolution : Obligations.NotIsAnInvolution := by
  intro s h
  exact ⟨fun rm => exec_notRm8 s rm h, fun rm => exec_notRm16 s rm h⟩

end Sys2Proof.Machine
end

section
/-! PROOFS. One MOVS, LODS or STOS without a repetition prefix (43_string.md R210, R211, R213, R214). -/

namespace Sys2Proof.Machine

/-! ## What the ten string rows share -/

/-- A string row without a repetition prefix is one iteration (43_string.md R216). -/
theorem exec_string_once (i : Instr) (h : isStringInstr i = true) (s : State) (hrep : s.cur.rep = .none) :
    exec i s = .next (iterOf i s) := by
  obtain ⟨hexec, -⟩ := exec_string i h
  rw [hexec, stringOp_once _ _ _ _ hrep]

/-- The step of a pointer, a number modulo 2^16 in the statement, in the arithmetic of words (43_string.md R210). -/
theorem stringStep_eq_add_delta (s : State) (n : Nat) (x : Word) :
    stringStep s.flags n x = x + s.delta (BitVec.ofNat 16 n) := by
  unfold stringStep State.delta
  split
  · rw [Int.sub_eq_add_neg, BitVec.ofInt_add, BitVec.ofInt_neg, BitVec.ofInt_natCast, BitVec.ofInt_natCast, BitVec.ofNat_toNat,
      BitVec.setWidth_eq]
  · rw [BitVec.ofInt_add, BitVec.ofInt_natCast, BitVec.ofInt_natCast, BitVec.ofNat_toNat, BitVec.setWidth_eq]

/-- Stepping SI adds the step to SI. -/
theorem SI_stepSI (s : State) (n : Nat) : (s.stepSI (BitVec.ofNat 16 n)).regs.SI = stringStep s.flags n s.regs.SI :=
  (stringStep_eq_add_delta s n s.regs.SI).symm

/-- Stepping DI adds the step to DI. -/
theorem DI_stepDI (s : State) (n : Nat) : (s.stepDI (BitVec.ofNat 16 n)).regs.DI = stringStep s.flags n s.regs.DI :=
  (stringStep_eq_add_delta s n s.regs.DI).symm

/-- Frame of a step of SI. -/
theorem frame_stepSI (s : State) (n : Word) : Frame s (s.stepSI n) [.si] [] [] := frame_setReg16 s .si _

/-- Frame of a step of DI. -/
theorem frame_stepDI (s : State) (n : Word) : Frame s (s.stepDI n) [.di] [] [] := frame_setReg16 s .di _

/-- Stepping SI leaves the accumulator's low byte alone. -/
theorem reg8_al_stepSI (s : State) (n : Word) : (s.stepSI n).reg8 .al = s.reg8 .al := rfl

/-! ## One iteration of each moving row -/

/-- One MOVSB (43_string.md R211): the element is read before the pointers step, and stepping touches neither memory nor the other
pointer. -/
theorem iterMovsb_spec (s : State) (h : s.mem.wf = true) :
    (iterMovsb s).mem.read8 s.regs.ES s.regs.DI = s.mem.read8 s.sourceSeg s.regs.SI ∧
      (iterMovsb s).regs.SI = stringStep s.flags 1 s.regs.SI ∧ (iterMovsb s).regs.DI = stringStep s.flags 1 s.regs.DI ∧
      Frame s (iterMovsb s) [.si, .di] [] [phys s.regs.ES s.regs.DI] :=
  ⟨Memory.byteAt_setByteAt_same _ _ _ h, SI_stepSI s 1, DI_stepDI s 1,
    ((frame_write8 s _ _ _ h).trans (frame_stepSI _ 1)).trans (frame_stepDI _ 1)⟩

/-- One MOVSW (43_string.md R211). -/
theorem iterMovsw_spec (s : State) (h : s.mem.wf = true) :
    (iterMovsw s).mem.read16 s.regs.ES s.regs.DI = s.mem.read16 s.sourceSeg s.regs.SI ∧
      (iterMovsw s).regs.SI = stringStep s.flags 2 s.regs.SI ∧ (iterMovsw s).regs.DI = stringStep s.flags 2 s.regs.DI ∧
      Frame s (iterMovsw s) [.si, .di] [] [phys s.regs.ES s.regs.DI, phys s.regs.ES s.regs.DI + 1] :=
  ⟨Memory.wordAt_setWordAt_same _ _ _ h, SI_stepSI s 2, DI_stepDI s 2,
    ((frame_write16 s _ _ _ h).trans (frame_stepSI _ 2)).trans (frame_stepDI _ 2)⟩

/-- One LODSB (43_string.md R213). -/
theorem iterLodsb_spec (s : State) :
    (iterLodsb s).reg8 .al = s.mem.read8 s.sourceSeg s.regs.SI ∧ (iterLodsb s).regs.SI = stringStep s.flags 1 s.regs.SI ∧
      Frame s (iterLodsb s) [.byte .al, .si] [] [] :=
  ⟨(reg8_al_stepSI _ 1).trans (Regs.get8_set8_same s.regs .al s.src8), SI_stepSI s 1, (frame_setReg8 s .al _).trans (frame_stepSI _ 1)⟩

/-- One LODSW (43_string.md R213). -/
theorem iterLodsw_spec (s : State) :
    (iterLodsw s).regs.AX = s.mem.read16 s.sourceSeg s.regs.SI ∧ (iterLodsw s).regs.SI = stringStep s.flags 2 s.regs.SI ∧
      Frame s (iterLodsw s) [.byte .al, .byte .ah, .si] [] [] :=
  ⟨rfl, SI_stepSI s 2, (frame_setReg16 s .ax _).trans (frame_stepSI _ 2)⟩

/-- One STOSB (43_string.md R214). -/
theorem iterStosb_spec (s : State) (h : s.mem.wf = true) :
    (iterStosb s).mem.read8 s.regs.ES s.regs.DI = s.reg8 .al ∧ (iterStosb s).regs.DI = stringStep s.flags 1 s.regs.DI ∧
      Frame s (iterStosb s) [.di] [] [phys s.regs.ES s.regs.DI] :=
  ⟨Memory.byteAt_setByteAt_same _ _ _ h, DI_stepDI s 1, (frame_write8 s _ _ _ h).trans (frame_stepDI _ 1)⟩

/-- One STOSW (43_string.md R214). -/
theorem iterStosw_spec (s : State) (h : s.mem.wf = true) :
    (iterStosw s).mem.read16 s.regs.ES s.regs.DI = s.regs.AX ∧ (iterStosw s).regs.DI = stringStep s.flags 2 s.regs.DI ∧
      Frame s (iterStosw s) [.di] [] [phys s.regs.ES s.regs.DI, phys s.regs.ES s.regs.DI + 1] :=
  ⟨Memory.wordAt_setWordAt_same _ _ _ h, DI_stepDI s 2, (frame_write16 s _ _ _ h).trans (frame_stepDI _ 2)⟩

/-- Settles O23: without a prefix each row is one iteration, and each iteration is a move of one element followed by its pointer
steps. -/
theorem stringMovesOneElement : Obligations.StringMovesOneElement := by
  intro s hwf hrep
  exact ⟨⟨_, exec_string_once .movsb rfl s hrep, iterMovsb_spec s hwf⟩,
    ⟨_, exec_string_once .movsw rfl s hrep, iterMovsw_spec s hwf⟩,
    ⟨_, exec_string_once .lodsb rfl s hrep, iterLodsb_spec s⟩,
    ⟨_, exec_string_once .lodsw rfl s hrep, iterLodsw_spec s⟩,
    ⟨_, exec_string_once .stosb rfl s hrep, iterStosb_spec s hwf⟩,
    ⟨_, exec_string_once .stosw rfl s hrep, iterStosw_spec s hwf⟩⟩

end Sys2Proof.Machine
end

section
/-! PROOFS. MOV between registers, memory and immediates (44_transfer.md R231 to R233). -/

namespace Sys2Proof.Machine

/-! ## Each row is one write of its destination -/

/-- `88` stores a byte register (44_transfer.md R231). -/
theorem exec_movRm8R8 (s : State) (rm : Rm8) (r : Reg8) :
    exec (.movRm8R8 rm r) s = .next (s.put8 (s.loc8 rm) (s.reg8 r)) := rfl

/-- `89` stores a word register (44_transfer.md R231). -/
theorem exec_movRm16R16 (s : State) (rm : Rm16) (r : Reg16) :
    exec (.movRm16R16 rm r) s = .next (s.put16 (s.loc16 rm) (s.reg16 r)) := rfl

/-- `8A` loads a byte register: it is the destination of the write (44_transfer.md R231). -/
theorem exec_movR8Rm8 (s : State) (r : Reg8) (rm : Rm8) :
    exec (.movR8Rm8 r rm) s = .next (s.put8 (s.loc8 (.reg r)) (s.rm8 rm)) := rfl

/-- `8B` loads a word register: it is the destination of the write (44_transfer.md R231). -/
theorem exec_movR16Rm16 (s : State) (r : Reg16) (rm : Rm16) :
    exec (.movR16Rm16 r rm) s = .next (s.put16 (s.loc16 (.reg r)) (s.rm16 rm)) := rfl

/-- `C6 /0` stores an immediate byte (44_transfer.md R232). -/
theorem exec_movRm8Ib (s : State) (rm : Rm8) (ib : Byte) :
    exec (.movRm8Ib rm ib) s = .next (s.put8 (s.loc8 rm) ib) := rfl

/-- `C7 /0` stores an immediate word (44_transfer.md R232). -/
theorem exec_movRm16Iw (s : State) (rm : Rm16) (iw : Word) :
    exec (.movRm16Iw rm iw) s = .next (s.put16 (s.loc16 rm) iw) := rfl

/-- `B0` to `B7` load a byte register with an immediate (44_transfer.md R233). -/
theorem exec_movR8Ib (s : State) (r : Reg8) (ib : Byte) :
    exec (.movR8Ib r ib) s = .next (s.put8 (s.loc8 (.reg r)) ib) := rfl

/-- `B8` to `BF` load a word register with an immediate (44_transfer.md R233). -/
theorem exec_movR16Iw (s : State) (r : Reg16) (iw : Word) :
    exec (.movR16Iw r iw) s = .next (s.put16 (s.loc16 (.reg r)) iw) := rfl

/-! ## What one write of a destination does -/

/-- An instruction that only writes a byte destination: the value arrives there and nothing else changes. -/
theorem exec_put8_spec {i : Instr} {s : State} {d : Rm8} {v : Byte} (hwf : s.mem.wf = true)
    (hexec : exec i s = .next (s.put8 (s.loc8 d) v)) :
    ∃ t, exec i s = .next t ∧ t.get8 (s.loc8 d) = v ∧ Frame s t d.parts [] (s.stored8 d) :=
  ⟨_, hexec, get8_put8 s _ v hwf, frame_put8 s s d v [] (Frame.refl s) hwf⟩

/-- An instruction that only writes a word destination: the value arrives there and nothing else changes. -/
theorem exec_put16_spec {i : Instr} {s : State} {d : Rm16} {v : Word} (hwf : s.mem.wf = true)
    (hexec : exec i s = .next (s.put16 (s.loc16 d) v)) :
    ∃ t, exec i s = .next t ∧ t.get16 (s.loc16 d) = v ∧ Frame s t d.parts [] (s.stored16 d) :=
  ⟨_, hexec, get16_put16 s _ v hwf, frame_put16 s s d v [] (Frame.refl s) hwf⟩

/-- Settles O30: every row writes its source, read in the old state, to its destination, and does nothing else. -/
theorem moveRegistersMemoryImmediates : Obligations.MoveRegistersMemoryImmediates := by
  intro s hwf
  constructor
  · rintro d i v (⟨r, rfl, rfl⟩ | ⟨r, rm, rfl, rfl, rfl⟩ | rfl | ⟨r, rfl, rfl⟩)
    · exact exec_put8_spec hwf (exec_movRm8R8 s d r)
    · exact exec_put8_spec hwf (exec_movR8Rm8 s r rm)
    · exact exec_put8_spec hwf (exec_movRm8Ib s d v)
    · exact exec_put8_spec hwf (exec_movR8Ib s r v)
  · rintro d i v (⟨r, rfl, rfl⟩ | ⟨r, rm, rfl, rfl, rfl⟩ | rfl | ⟨r, rfl, rfl⟩)
    · exact exec_put16_spec hwf (exec_movRm16R16 s d r)
    · exact exec_put16_spec hwf (exec_movR16Rm16 s r rm)
    · exact exec_put16_spec hwf (exec_movRm16Iw s d v)
    · exact exec_put16_spec hwf (exec_movR16Iw s r v)

end Sys2Proof.Machine
end

section
/-! PROOFS. The conditional jumps and JCXZ (45_control_flow.md R276, R277). -/

namespace Sys2Proof.Machine

/-! ## What one conditional jump does, whatever its condition -/

/-- The relative target as the statements write it: the sum of the numbers, modulo 2^16 (30_encoding.md R103). -/
theorem target8_eq_ofInt (s : State) (rel : Byte) :
    s.target8 rel = BitVec.ofInt 16 (s.regs.IP.toNat + rel.toInt) := by
  rw [BitVec.ofInt_add, BitVec.ofInt_natCast, BitVec.ofNat_toNat, BitVec.setWidth_eq]
  rfl

/-- An instruction that is one short jump under the condition `P`: it goes to the target when `P` holds, and does nothing else. -/
theorem exec_jumpIf_spec {i : Instr} {s : State} {taken : Bool} {rel : Byte} {P : Prop}
    (hexec : exec i s = .next (s.jumpIf taken rel)) (htaken : taken = true ↔ P) :
    (P → exec i s = .next { s with regs := { s.regs with IP := BitVec.ofInt 16 (s.regs.IP.toNat + rel.toInt) } }) ∧
      (¬P → exec i s = .next s) := by
  rw [hexec, ← htaken, ← target8_eq_ofInt]
  cases taken with
  | true => exact ⟨fun _ => rfl, fun hnot => absurd rfl hnot⟩
  | false => exact ⟨nofun, fun _ => rfl⟩

/-! ## The rows -/

/-- Each of the sixteen rows is one short jump, whose Boolean decides the predicate column of 45_control_flow.md R276. -/
theorem exec_condJump (c : Cond) (rel : Byte) (s : State) :
    ∃ taken, exec (c.instr rel) s = .next (s.jumpIf taken rel) ∧ (taken = true ↔ c.Taken s.flags) := by
  match c with
  | .o | .b | .z | .s | .pe => exact ⟨_, rfl, .rfl⟩
  | .no | .nb | .nz | .ns | .po => exact ⟨_, rfl, .of_eq (Bool.not_eq_true' _)⟩
  | .be => exact ⟨_, rfl, Bool.or_eq_true_iff⟩
  | .l => exact ⟨_, rfl, bne_iff_ne⟩
  | .ge => exact ⟨_, rfl, beq_iff_eq⟩
  | .le => exact ⟨_, rfl, Bool.or_eq_true_iff.trans (or_congr_left bne_iff_ne)⟩
  | .a | .g => exact ⟨_, rfl, by simp [Cond.Taken]⟩

/-- `E3` is one short jump, taken when CX is 0 (45_control_flow.md R277). -/
theorem exec_jcxz (rel : Byte) (s : State) : exec (.jcxz rel) s = .next (s.jumpIf (decide (s.regs.CX = 0)) rel) := rfl

/-- The opcode column of 45_control_flow.md R276: the decoder reads the opcode and one signed byte, and no more. -/
theorem decode_condJump (c : Cond) (rel : Byte) (tail : List Byte) :
    decode (c.opcode :: rel :: tail) = .ok (c.instr rel) tail := by
  cases c <;> rfl

/-- Settles O37: every row is one short jump, so the predicate alone decides between the target and the unchanged state. -/
theorem conditionalJumps : Obligations.ConditionalJumps := by
  rintro s rel target rfl
  refine ⟨fun c => ?_, rfl, exec_jumpIf_spec (exec_jcxz rel s) decide_eq_true_iff⟩
  obtain ⟨taken, hexec, htaken⟩ := exec_condJump c rel s
  obtain ⟨hjump, hstay⟩ := exec_jumpIf_spec hexec htaken
  exact ⟨hjump, hstay, decode_condJump c rel []⟩

end Sys2Proof.Machine
end

section
/-! PROOFS. The decoder reads back what the encoder writes (30_encoding.md R116, R117): one lemma per operand format of a group slot, then
the opcode map. -/

namespace Sys2Proof

/-! ## The slots of the groups: the group picks the slot by the `reg` field, and the slot reads its operands back -/

/-- A slot with an `r/m8` alone. -/
theorem decGroup_slotRm8 (rm : Rm8) (reg : BitVec 3) (rest : List Byte) (k : Rm8 → Instr) {pick : Nat → Decoded} (h : rm.wf = true)
    (hslot : pick reg.toNat = decRm8 (encRm8 rm reg ++ rest) k) : decGroup (encRm8 rm reg ++ rest) pick = .ok (k rm) rest := by
  rw [decGroup_encRm8 rm reg rest pick h, hslot, decRm8_enc rm reg rest k h]

/-- A slot with an `r/m16` alone. -/
theorem decGroup_slotRm16 (rm : Rm16) (reg : BitVec 3) (rest : List Byte) (k : Rm16 → Instr) {pick : Nat → Decoded}
    (h : rm.wf = true) (hslot : pick reg.toNat = decRm16 (encRm16 rm reg ++ rest) k) :
    decGroup (encRm16 rm reg ++ rest) pick = .ok (k rm) rest := by
  rw [decGroup_encRm16 rm reg rest pick h, hslot, decRm16_enc rm reg rest k h]

/-- A slot with an `r/m8` and a byte immediate. -/
theorem decGroup_slotRm8Ib (rm : Rm8) (reg : BitVec 3) (ib : Byte) (rest : List Byte) (k : Rm8 → Byte → Instr)
    {pick : Nat → Decoded} (h : rm.wf = true) (hslot : pick reg.toNat = decRm8Ib (encRm8 rm reg ++ [ib] ++ rest) k) :
    decGroup (encRm8 rm reg ++ [ib] ++ rest) pick = .ok (k rm ib) rest := by
  rw [List.append_assoc] at hslot ⊢
  rw [decGroup_encRm8 rm reg _ pick h, hslot, decRm8Ib_enc rm reg ib rest k h]

/-- A slot with an `r/m16` and a byte immediate. -/
theorem decGroup_slotRm16Ib (rm : Rm16) (reg : BitVec 3) (ib : Byte) (rest : List Byte) (k : Rm16 → Byte → Instr)
    {pick : Nat → Decoded} (h : rm.wf = true) (hslot : pick reg.toNat = decRm16Ib (encRm16 rm reg ++ [ib] ++ rest) k) :
    decGroup (encRm16 rm reg ++ [ib] ++ rest) pick = .ok (k rm ib) rest := by
  rw [List.append_assoc] at hslot ⊢
  rw [decGroup_encRm16 rm reg _ pick h, hslot, decRm16Ib_enc rm reg ib rest k h]

/-- A slot with an `r/m16` and a word immediate. -/
theorem decGroup_slotRm16Iw (rm : Rm16) (reg : BitVec 3) (iw : Word) (rest : List Byte) (k : Rm16 → Word → Instr)
    {pick : Nat → Decoded} (h : rm.wf = true) (hslot : pick reg.toNat = decRm16Iw (encRm16 rm reg ++ encWord iw ++ rest) k) :
    decGroup (encRm16 rm reg ++ encWord iw ++ rest) pick = .ok (k rm iw) rest := by
  rw [List.append_assoc] at hslot ⊢
  rw [decGroup_encRm16 rm reg _ pick h, hslot, decRm16Iw_enc rm reg iw rest k h]

/-- A slot with a memory operand. -/
theorem decGroup_slotMem (m : MemOp) (reg : BitVec 3) (rest : List Byte) (k : MemOp → Instr) (bad : BitVec 3 → Instr)
    {pick : Nat → Decoded} (h : m.wf = true) (hslot : pick reg.toNat = decMem (encMem m reg ++ rest) k bad) :
    decGroup (encMem m reg ++ rest) pick = .ok (k m) rest := by
  rw [decGroup_encMem m reg rest pick h, hslot, decMem_enc m reg rest k bad h]

/-- A slot with a memory operand, where mod = 11 gives a register instead (30_encoding.md R121). -/
theorem decGroup_slotMod3 (reg rm : BitVec 3) (rest : List Byte) (k : MemOp → Instr) (bad : BitVec 3 → Instr)
    {pick : Nat → Decoded} (hslot : pick reg.toNat = decMem (modRM 3 reg rm :: rest) k bad) :
    decGroup (modRM 3 reg rm :: rest) pick = .ok (bad rm) rest := by
  rw [decGroup_modRM, hslot, decMem_bad]

/-- An unused slot (30_encoding.md R109). -/
theorem decGroup_slotUnused (mod : BitVec 2) (reg rm : BitVec 3) (rest : List Byte) (k : BitVec 2 → BitVec 3 → Instr)
    {pick : Nat → Decoded} (hslot : pick reg.toNat = decSlot (modRM mod reg rm :: rest) k) :
    decGroup (modRM mod reg rm :: rest) pick = .ok (k mod rm) rest := by
  rw [decGroup_modRM, hslot, decSlot_enc]

/-! ## The remaining formats, in the form the encoder gives them -/

/-- A far pointer, as the encoder appends it. -/
theorem decPtr_encPtr (off seg : Word) (rest : List Byte) (k : Word → Word → Instr) :
    decPtr (encWord off ++ encWord seg ++ rest) k = .ok (k off seg) rest := by
  rw [List.append_assoc, decPtr_enc]

/-- `/r` with a byte operand, in the rows whose destination is the register. -/
theorem decRm8R8_encRegFirst (r : Reg8) (rm : Rm8) (rest : List Byte) (k : Reg8 → Rm8 → Instr) (h : rm.wf = true) :
    decRm8R8 (encRm8 rm r.bits ++ rest) (fun rm r => k r rm) = .ok (k r rm) rest := decRm8R8_enc rm r rest _ h

/-- `/r` with a word operand, in the rows whose destination is the register. -/
theorem decRm16R16_encRegFirst (r : Reg16) (rm : Rm16) (rest : List Byte) (k : Reg16 → Rm16 → Instr) (h : rm.wf = true) :
    decRm16R16 (encRm16 rm r.bits ++ rest) (fun rm r => k r rm) = .ok (k r rm) rest := decRm16R16_enc rm r rest _ h

/-- `/r` with a segment register, in the row whose destination is the segment register. -/
theorem decSReg_encSRegFirst (sr : SReg) (rm : Rm16) (rest : List Byte) (k : SReg → Rm16 → Instr)
    (bad : BitVec 2 → BitVec 2 → BitVec 3 → Instr) (h : rm.wf = true) :
    decSReg (encRm16 rm (0#1 ++ sr.bits) ++ rest) (fun rm sr => k sr rm) bad = .ok (k sr rm) rest := decSReg_enc rm sr rest _ bad h

/-! ## The opcode map -/

/-- Settles O1: the opcode byte leads to the decoder of the row's operand format, which reads the operands back; the cases are grouped by
that format. -/
theorem decodeAfterEncode : Obligations.DecodeAfterEncode := by
  intro i rest hwf
  cases i with
  | pushEs | popEs | pushCs | unimpl0F | pushSs | popSs | pushDs | popDs | prefixEs | unimpl27 | prefixCs | unimpl2F
  | prefixSs | unimpl37 | prefixDs | unimpl3F | unimpl60 | unimpl61 | unimpl62 | unimpl63 | unimpl64 | unimpl65 | unimpl66
  | unimpl67 | unimpl68 | unimpl69 | unimpl6A | unimpl6B | unimpl6C | unimpl6D | unimpl6E | unimpl6F | unimpl98 | unimpl99
  | unimpl9B | pushf | popf | unimpl9E | unimpl9F | movsb | movsw | cmpsb | cmpsw | stosb | stosw | lodsb | lodsw | scasb
  | scasw | unimplC0 | unimplC1 | ret | unimplC8 | unimplC9 | retf | int3 | unimplCE | iret | unimplD4 | unimplD5 | unimplD6
  | unimplD7 | unimplD8 | unimplD9 | unimplDA | unimplDB | unimplDC | unimplDD | unimplDE | unimplDF | unimplE4 | unimplE5
  | unimplE6 | unimplE7 | unimplEC | unimplED | unimplEE | unimplEF | unimplF0 | unimplF1 | prefixRepnz | prefixRep
  | unimplF4 | cmc | clc | stc | cli | sti | cld | std =>
    rfl
  | addAlIb _ | orAlIb _ | adcAlIb _ | sbbAlIb _ | andAlIb _ | subAlIb _ | xorAlIb _ | cmpAlIb _ | testAlIb _ | intIb _
  | jo _ | jno _ | jb _ | jnb _ | jz _ | jnz _ | jbe _ | ja _ | js _ | jns _ | jpe _ | jpo _ | jl _ | jge _ | jle _ | jg _
  | loopne _ | loope _ | loop _ | jcxz _ | jmpRel8 _ =>
    rfl
  | incR16 r | decR16 r | pushR16 r | popR16 r | xchgAxR16 r =>
    cases r <;> rfl
  | movR8Ib r ib =>
    cases r <;> rfl
  | movR16Iw r iw =>
    cases r <;> exact decIw_enc iw rest _
  | addAxIw w | orAxIw w | adcAxIw w | sbbAxIw w | andAxIw w | subAxIw w | xorAxIw w | cmpAxIw w | testAxIw w | retIw w
  | retfIw w | movAlMoffs w | movAxMoffs w | movMoffsAl w | movMoffsAx w | callRel16 w | jmpRel16 w =>
    exact decIw_enc w rest _
  | callPtr off seg | jmpPtr off seg =>
    exact decPtr_encPtr off seg rest _
  | addRm8R8 rm r | orRm8R8 rm r | adcRm8R8 rm r | sbbRm8R8 rm r | andRm8R8 rm r | subRm8R8 rm r | xorRm8R8 rm r
  | cmpRm8R8 rm r | testRm8R8 rm r | xchgRm8R8 rm r | movRm8R8 rm r =>
    exact decRm8R8_enc rm r rest _ hwf
  | addR8Rm8 r rm | orR8Rm8 r rm | adcR8Rm8 r rm | sbbR8Rm8 r rm | andR8Rm8 r rm | subR8Rm8 r rm | xorR8Rm8 r rm
  | cmpR8Rm8 r rm | movR8Rm8 r rm =>
    exact decRm8R8_encRegFirst r rm rest _ hwf
  | addRm16R16 rm r | orRm16R16 rm r | adcRm16R16 rm r | sbbRm16R16 rm r | andRm16R16 rm r | subRm16R16 rm r
  | xorRm16R16 rm r | cmpRm16R16 rm r | testRm16R16 rm r | xchgRm16R16 rm r | movRm16R16 rm r =>
    exact decRm16R16_enc rm r rest _ hwf
  | addR16Rm16 r rm | orR16Rm16 r rm | adcR16Rm16 r rm | sbbR16Rm16 r rm | andR16Rm16 r rm | subR16Rm16 r rm
  | xorR16Rm16 r rm | cmpR16Rm16 r rm | movR16Rm16 r rm =>
    exact decRm16R16_encRegFirst r rm rest _ hwf
  | leaR16M r m | lesR16M r m | ldsR16M r m =>
    exact decMemR16_enc m r rest _ _ hwf
  | unimpl8DMod3 reg rm | unimplC4Mod3 reg rm | unimplC5Mod3 reg rm =>
    exact decMemR16_bad reg rm rest _ _
  | movRm16Sreg rm sr =>
    exact decSReg_enc rm sr rest _ _ hwf
  | movSregRm16 sr rm =>
    exact decSReg_encSRegFirst sr rm rest _ _ hwf
  | unimpl8CReg4to7 mod reg rm =>
    exact decSReg_bad mod reg rm rest .movRm16Sreg _
  | unimpl8EReg4to7 mod reg rm =>
    exact decSReg_bad mod reg rm rest (fun rm sr => .movSregRm16 sr rm) _
  | rolRm8One rm | rorRm8One rm | rclRm8One rm | rcrRm8One rm | shlRm8One rm | shrRm8One rm | sarRm8One rm | rolRm8Cl rm
  | rorRm8Cl rm | rclRm8Cl rm | rcrRm8Cl rm | shlRm8Cl rm | shrRm8Cl rm | sarRm8Cl rm | notRm8 rm | mulRm8 rm | divRm8 rm
  | incRm8 rm | decRm8 rm =>
    exact decGroup_slotRm8 rm _ rest _ hwf rfl
  | popRm16 rm | rolRm16One rm | rorRm16One rm | rclRm16One rm | rcrRm16One rm | shlRm16One rm | shrRm16One rm
  | sarRm16One rm | rolRm16Cl rm | rorRm16Cl rm | rclRm16Cl rm | rcrRm16Cl rm | shlRm16Cl rm | shrRm16Cl rm | sarRm16Cl rm
  | notRm16 rm | mulRm16 rm | divRm16 rm | incRm16 rm | decRm16 rm | callRm16 rm | jmpRm16 rm | pushRm16 rm =>
    exact decGroup_slotRm16 rm _ rest _ hwf rfl
  | addRm8Ib rm ib | orRm8Ib rm ib | adcRm8Ib rm ib | sbbRm8Ib rm ib | andRm8Ib rm ib | subRm8Ib rm ib | xorRm8Ib rm ib
  | cmpRm8Ib rm ib | addRm8Ib82 rm ib | orRm8Ib82 rm ib | adcRm8Ib82 rm ib | sbbRm8Ib82 rm ib | andRm8Ib82 rm ib
  | subRm8Ib82 rm ib | xorRm8Ib82 rm ib | cmpRm8Ib82 rm ib | movRm8Ib rm ib | testRm8Ib rm ib =>
    exact decGroup_slotRm8Ib rm _ ib rest _ hwf rfl
  | addRm16Sext rm ib | orRm16Sext rm ib | adcRm16Sext rm ib | sbbRm16Sext rm ib | andRm16Sext rm ib | subRm16Sext rm ib
  | xorRm16Sext rm ib | cmpRm16Sext rm ib =>
    exact decGroup_slotRm16Ib rm _ ib rest _ hwf rfl
  | addRm16Iw rm iw | orRm16Iw rm iw | adcRm16Iw rm iw | sbbRm16Iw rm iw | andRm16Iw rm iw | subRm16Iw rm iw
  | xorRm16Iw rm iw | cmpRm16Iw rm iw | movRm16Iw rm iw | testRm16Iw rm iw =>
    exact decGroup_slotRm16Iw rm _ iw rest _ hwf rfl
  | callM16 m | jmpM16 m =>
    exact decGroup_slotMem m _ rest _ _ hwf rfl
  | unimpl8FSub1 mod rm | unimpl8FSub2 mod rm | unimpl8FSub3 mod rm | unimpl8FSub4 mod rm | unimpl8FSub5 mod rm
  | unimpl8FSub6 mod rm | unimpl8FSub7 mod rm =>
    exact decGroup_slotUnused (pick := decSlots8F _) mod _ rm rest _ rfl
  | unimplC6Sub1 mod rm | unimplC6Sub2 mod rm | unimplC6Sub3 mod rm | unimplC6Sub4 mod rm | unimplC6Sub5 mod rm
  | unimplC6Sub6 mod rm | unimplC6Sub7 mod rm =>
    exact decGroup_slotUnused (pick := decSlotsC6 _) mod _ rm rest _ rfl
  | unimplC7Sub1 mod rm | unimplC7Sub2 mod rm | unimplC7Sub3 mod rm | unimplC7Sub4 mod rm | unimplC7Sub5 mod rm
  | unimplC7Sub6 mod rm | unimplC7Sub7 mod rm =>
    exact decGroup_slotUnused (pick := decSlotsC7 _) mod _ rm rest _ rfl
  | unimplD0Sub6 mod rm =>
    exact decGroup_slotUnused (pick := decSlotsD0 _) mod _ rm rest _ rfl
  | unimplD1Sub6 mod rm =>
    exact decGroup_slotUnused (pick := decSlotsD1 _) mod _ rm rest _ rfl
  | unimplD2Sub6 mod rm =>
    exact decGroup_slotUnused (pick := decSlotsD2 _) mod _ rm rest _ rfl
  | unimplD3Sub6 mod rm =>
    exact decGroup_slotUnused (pick := decSlotsD3 _) mod _ rm rest _ rfl
  | unimplF6Sub1 mod rm | unimplF6Sub3 mod rm | unimplF6Sub5 mod rm | unimplF6Sub7 mod rm =>
    exact decGroup_slotUnused (pick := decSlotsF6 _) mod _ rm rest _ rfl
  | unimplF7Sub1 mod rm | unimplF7Sub3 mod rm | unimplF7Sub5 mod rm | unimplF7Sub7 mod rm =>
    exact decGroup_slotUnused (pick := decSlotsF7 _) mod _ rm rest _ rfl
  | unimplFESub2 mod rm | unimplFESub3 mod rm | unimplFESub4 mod rm | unimplFESub5 mod rm | unimplFESub6 mod rm
  | unimplFESub7 mod rm =>
    exact decGroup_slotUnused (pick := decSlotsFE _) mod _ rm rest _ rfl
  | unimplFFSub7 mod rm =>
    exact decGroup_slotUnused (pick := decSlotsFF _) mod _ rm rest _ rfl
  | unimplFFSub3Mod3 rm | unimplFFSub5Mod3 rm =>
    exact decGroup_slotMod3 (pick := decSlotsFF _) _ rm rest _ _ rfl

end Sys2Proof
end

section
/-! PROOFS. The encoder gives back the bytes the decoder has read (30_encoding.md R127): the readers of bytes, words and operands, one lemma
per operand format, then the slots of the groups and the opcode map. -/

namespace Sys2Proof

/-- If the decoder's answer `d` is an instruction, that instruction is well-formed and its encoding, before the bytes left over, is `bs`. -/
def DecodesBack (bs : List Byte) (d : Decoded) : Prop := ∀ i rest, d = .ok i rest → i.wf = true ∧ encode i ++ rest = bs

/-- An instruction answered. -/
theorem ok_back {bs : List Byte} {i : Instr} {rest : List Byte} (hwf : i.wf = true) (henc : encode i ++ rest = bs) :
    DecodesBack bs (.ok i rest) := by
  rintro _ _ ⟨⟩
  exact ⟨hwf, henc⟩

/-- No instruction answered. -/
theorem truncated_back (bs : List Byte) : DecodesBack bs .truncated := by
  rintro _ _ ⟨⟩

/-! ## The readers: what follows knows which bytes have been read -/

/-- One byte. -/
theorem takeByte_back {bs all : List Byte} {k : Byte → List Byte → Decoded}
    (h : ∀ b rest, bs = b :: rest → DecodesBack all (k b rest)) : DecodesBack all (takeByte bs k) := by
  cases bs with
  | nil => exact truncated_back all
  | cons b rest => exact h b rest rfl

/-- One word. -/
theorem takeWord_back {bs all : List Byte} {k : Word → List Byte → Decoded}
    (h : ∀ w rest, bs = encWord w ++ rest → DecodesBack all (k w rest)) : DecodesBack all (takeWord bs k) := by
  match bs with
  | [] | [_] => exact truncated_back all
  | lo :: hi :: rest => exact h (joinBytes lo hi) rest (by rw [encWord_joinBytes]; rfl)

/-- A memory operand after its ModR/M byte `b`. -/
theorem takeMem_back {bs all : List Byte} {b : Byte} {k : MemOp → List Byte → Decoded} (hmod : modField b ≠ 3)
    (h : ∀ m rest, m.wf = true → b :: bs = encMem m (regField b) ++ rest → DecodesBack all (k m rest)) :
    DecodesBack all (takeMem (modField b) (rmField b) bs k) := by
  have hb : ∀ mod rm, modField b = mod → rmField b = rm → b = modRM mod (regField b) rm := by
    rintro _ _ rfl rfl
    exact (modRM_fields b).symm
  unfold takeMem
  split
  next hzero =>
    have hmod0 : modField b = 0 := BitVec.eq_of_toNat_eq hzero
    split
    next hrm =>
      refine takeWord_back fun w rest e => h _ _ rfl ?_
      rw [e]; exact congrArg (· :: (encWord w ++ rest)) (hb 0 6 hmod0 hrm)
    next hrm =>
      refine h _ _ ?_ (congrArg (· :: bs) (hb 0 _ hmod0 (Base.bits_ofBits _).symm))
      revert hrm
      generalize rmField b = rm
      revert rm
      decide
  next hone =>
    have hmod1 : modField b = 1 := BitVec.eq_of_toNat_eq hone
    refine takeByte_back fun d rest e => h _ _ ?_ ?_
    · cases Base.ofBits (rmField b) <;> rfl
    · rw [e]; exact congrArg (· :: d :: rest) (hb 1 _ hmod1 (Base.bits_ofBits _).symm)
  next hzero hone =>
    have hmod2 : modField b = 2 := by
      revert hmod hzero hone
      generalize modField b = mod
      revert mod
      decide
    refine takeWord_back fun d rest e => h _ _ ?_ ?_
    · cases Base.ofBits (rmField b) <;> rfl
    · rw [e]; exact congrArg (· :: (encWord d ++ rest)) (hb 2 _ hmod2 (Base.bits_ofBits _).symm)

/-- An `r/m8` and its `reg` field. -/
theorem takeRm8_back {bs all : List Byte} {k : Rm8 → BitVec 3 → List Byte → Decoded}
    (h : ∀ b tl rm rest, bs = b :: tl → rm.wf = true → bs = encRm8 rm (regField b) ++ rest → DecodesBack all (k rm (regField b) rest)) :
    DecodesBack all (takeRm8 bs k) := by
  refine takeByte_back fun b tl e => ?_
  split
  next hmod =>
    refine h b tl _ tl e rfl ?_
    rw [encRm8, Reg8.bits_ofBits, ← hmod, modRM_fields]
    exact e
  next hmod => exact takeMem_back hmod fun m rest hwf he => h b tl (.mem m) rest e hwf (e.trans he)

/-- An `r/m16` and its `reg` field. -/
theorem takeRm16_back {bs all : List Byte} {k : Rm16 → BitVec 3 → List Byte → Decoded}
    (h : ∀ b tl rm rest, bs = b :: tl → rm.wf = true → bs = encRm16 rm (regField b) ++ rest → DecodesBack all (k rm (regField b) rest)) :
    DecodesBack all (takeRm16 bs k) := by
  refine takeByte_back fun b tl e => ?_
  split
  next hmod =>
    refine h b tl _ tl e rfl ?_
    rw [encRm16, Reg16.bits_ofBits, ← hmod, modRM_fields]
    exact e
  next hmod => exact takeMem_back hmod fun m rest hwf he => h b tl (.mem m) rest e hwf (e.trans he)

/-! ## One lemma per operand format: what the constructor `k` of the row must encode to -/

section Formats

variable {op : Byte} {bs : List Byte}

/-- `/r` with a byte operand. -/
theorem decRm8R8_back {k : Rm8 → Reg8 → Instr} (hwf : ∀ rm r, (k rm r).wf = rm.wf := by intros; rfl)
    (henc : ∀ rm r, encode (k rm r) = op :: encRm8 rm r.bits := by intros; rfl) : DecodesBack (op :: bs) (decRm8R8 bs k) :=
  takeRm8_back fun b _ rm rest _ hrm e => ok_back ((hwf rm _).trans hrm) (by rw [henc, Reg8.bits_ofBits, e]; rfl)

/-- `/r` with a word operand. -/
theorem decRm16R16_back {k : Rm16 → Reg16 → Instr} (hwf : ∀ rm r, (k rm r).wf = rm.wf := by intros; rfl)
    (henc : ∀ rm r, encode (k rm r) = op :: encRm16 rm r.bits := by intros; rfl) : DecodesBack (op :: bs) (decRm16R16 bs k) :=
  takeRm16_back fun b _ rm rest _ hrm e => ok_back ((hwf rm _).trans hrm) (by rw [henc, Reg16.bits_ofBits, e]; rfl)

/-- `/r` with a byte operand, in the rows whose destination is the register. -/
theorem decRm8R8_backRegFirst {k : Reg8 → Rm8 → Instr} (hwf : ∀ r rm, (k r rm).wf = rm.wf := by intros; rfl)
    (henc : ∀ r rm, encode (k r rm) = op :: encRm8 rm r.bits := by intros; rfl) :
    DecodesBack (op :: bs) (decRm8R8 bs fun rm r => k r rm) :=
  decRm8R8_back (fun rm r => hwf r rm) fun rm r => henc r rm

/-- `/r` with a word operand, in the rows whose destination is the register. -/
theorem decRm16R16_backRegFirst {k : Reg16 → Rm16 → Instr} (hwf : ∀ r rm, (k r rm).wf = rm.wf := by intros; rfl)
    (henc : ∀ r rm, encode (k r rm) = op :: encRm16 rm r.bits := by intros; rfl) :
    DecodesBack (op :: bs) (decRm16R16 bs fun rm r => k r rm) :=
  decRm16R16_back (fun rm r => hwf r rm) fun rm r => henc r rm

/-- A byte immediate. -/
theorem decIb_back {k : Byte → Instr} (hwf : ∀ b, (k b).wf = true := by intros; rfl)
    (henc : ∀ b, encode (k b) = [op, b] := by intros; rfl) : DecodesBack (op :: bs) (decIb bs k) :=
  takeByte_back fun b _ e => ok_back (hwf b) (by rw [henc, e]; rfl)

/-- A word immediate. -/
theorem decIw_back {k : Word → Instr} (hwf : ∀ w, (k w).wf = true := by intros; rfl)
    (henc : ∀ w, encode (k w) = op :: encWord w := by intros; rfl) : DecodesBack (op :: bs) (decIw bs k) :=
  takeWord_back fun w _ e => ok_back (hwf w) (by rw [henc, e]; rfl)

/-- A far pointer. -/
theorem decPtr_back {k : Word → Word → Instr} (hwf : ∀ off seg, (k off seg).wf = true := by intros; rfl)
    (henc : ∀ off seg, encode (k off seg) = op :: (encWord off ++ encWord seg) := by intros; rfl) :
    DecodesBack (op :: bs) (decPtr bs k) :=
  takeWord_back fun off _ e => takeWord_back fun seg _ e' => ok_back (hwf off seg) (by rw [henc, e, e']; rfl)

/-- An `r/m16` and a segment register, or the number of none. -/
theorem decSReg_back {k : Rm16 → SReg → Instr} {bad : BitVec 2 → BitVec 2 → BitVec 3 → Instr}
    (hwf : ∀ rm sr, (k rm sr).wf = rm.wf := by intros; rfl)
    (henc : ∀ rm sr, encode (k rm sr) = op :: encRm16 rm (0#1 ++ sr.bits) := by intros; rfl)
    (hbadwf : ∀ mod reg rm, (bad mod reg rm).wf = true := by intros; rfl)
    (hbad : ∀ mod reg rm, encode (bad mod reg rm) = [op, modRM mod (1#1 ++ reg) rm] := by intros; rfl) :
    DecodesBack (op :: bs) (decSReg bs k bad) := by
  refine takeByte_back fun b tl e => ?_
  split
  next h5 =>
    have hb : ∀ b : Byte, b.getLsbD 5 = true → modRM (modField b) (1#1 ++ b.extractLsb' 3 2) (rmField b) = b := by decide
    exact ok_back (hbadwf _ _ _) (by rw [hbad, hb b h5, e]; rfl)
  next h5 =>
    have hreg : ∀ b : Byte, ¬b.getLsbD 5 = true → (0#1 ++ (regField b).extractLsb' 0 2 : BitVec 3) = regField b := by decide
    refine takeRm16_back fun b' tl' rm rest e' hrm he => ok_back ((hwf rm _).trans hrm) ?_
    obtain ⟨rfl, -⟩ : b = b' ∧ tl = tl' := by simpa [e] using e'
    rw [henc, SReg.bits_ofBits, hreg b h5, he]; rfl

/-- A word register and a memory operand, or a register in its place. -/
theorem decMemR16_back {k : Reg16 → MemOp → Instr} {bad : BitVec 3 → BitVec 3 → Instr}
    (hwf : ∀ r m, (k r m).wf = m.wf := by intros; rfl)
    (henc : ∀ r m, encode (k r m) = op :: encMem m r.bits := by intros; rfl)
    (hbadwf : ∀ reg rm, (bad reg rm).wf = true := by intros; rfl)
    (hbad : ∀ reg rm, encode (bad reg rm) = [op, modRM 3 reg rm] := by intros; rfl) :
    DecodesBack (op :: bs) (decMemR16 bs k bad) := by
  refine takeByte_back fun b tl e => ?_
  split
  next hmod => exact ok_back (hbadwf _ _) (by rw [hbad, ← hmod, modRM_fields, e]; rfl)
  next hmod =>
    exact takeMem_back hmod fun m rest hm he => ok_back ((hwf _ m).trans hm) (by rw [henc, Reg16.bits_ofBits, e, he]; rfl)

/-- A group: each slot with its `reg` field. -/
theorem decGroup_back {slots : List Byte → Nat → Decoded}
    (h : ∀ b tl n, n = (regField b).toNat → n < 8 → DecodesBack (op :: b :: tl) (slots (b :: tl) n)) :
    DecodesBack (op :: bs) (decGroup bs (slots bs)) := by
  refine takeByte_back fun b tl e => ?_
  rw [e]; exact h b tl _ rfl (regField b).isLt

end Formats

/-! ## One lemma per operand format of a slot, whose `reg` field is given -/

section Slots

variable {op b : Byte} {tl : List Byte} (reg : BitVec 3) (hreg : reg.toNat = (regField b).toNat)

include hreg

/-- An `r/m8` alone. -/
theorem decRm8_back {k : Rm8 → Instr} (hwf : ∀ rm, (k rm).wf = rm.wf := by intros; rfl)
    (henc : ∀ rm, encode (k rm) = op :: encRm8 rm reg := by intros; rfl) : DecodesBack (op :: b :: tl) (decRm8 (b :: tl) k) := by
  obtain rfl := BitVec.eq_of_toNat_eq hreg
  refine takeRm8_back fun b' _ rm rest eb hrm e => ok_back ((hwf rm).trans hrm) ?_
  cases eb
  rw [henc, e]; rfl

/-- An `r/m16` alone. -/
theorem decRm16_back {k : Rm16 → Instr} (hwf : ∀ rm, (k rm).wf = rm.wf := by intros; rfl)
    (henc : ∀ rm, encode (k rm) = op :: encRm16 rm reg := by intros; rfl) : DecodesBack (op :: b :: tl) (decRm16 (b :: tl) k) := by
  obtain rfl := BitVec.eq_of_toNat_eq hreg
  refine takeRm16_back fun b' _ rm rest eb hrm e => ok_back ((hwf rm).trans hrm) ?_
  cases eb
  rw [henc, e]; rfl

/-- An `r/m8` and a byte immediate. -/
theorem decRm8Ib_back {k : Rm8 → Byte → Instr} (hwf : ∀ rm ib, (k rm ib).wf = rm.wf := by intros; rfl)
    (henc : ∀ rm ib, encode (k rm ib) = op :: (encRm8 rm reg ++ [ib]) := by intros; rfl) :
    DecodesBack (op :: b :: tl) (decRm8Ib (b :: tl) k) := by
  obtain rfl := BitVec.eq_of_toNat_eq hreg
  refine takeRm8_back fun b' _ rm rest eb hrm e => takeByte_back fun ib _ e' => ok_back ((hwf rm ib).trans hrm) ?_
  cases eb
  rw [henc, e, e', List.cons_append, List.append_assoc]; rfl

/-- An `r/m16` and a byte immediate. -/
theorem decRm16Ib_back {k : Rm16 → Byte → Instr} (hwf : ∀ rm ib, (k rm ib).wf = rm.wf := by intros; rfl)
    (henc : ∀ rm ib, encode (k rm ib) = op :: (encRm16 rm reg ++ [ib]) := by intros; rfl) :
    DecodesBack (op :: b :: tl) (decRm16Ib (b :: tl) k) := by
  obtain rfl := BitVec.eq_of_toNat_eq hreg
  refine takeRm16_back fun b' _ rm rest eb hrm e => takeByte_back fun ib _ e' => ok_back ((hwf rm ib).trans hrm) ?_
  cases eb
  rw [henc, e, e', List.cons_append, List.append_assoc]; rfl

/-- An `r/m16` and a word immediate. -/
theorem decRm16Iw_back {k : Rm16 → Word → Instr} (hwf : ∀ rm iw, (k rm iw).wf = rm.wf := by intros; rfl)
    (henc : ∀ rm iw, encode (k rm iw) = op :: (encRm16 rm reg ++ encWord iw) := by intros; rfl) :
    DecodesBack (op :: b :: tl) (decRm16Iw (b :: tl) k) := by
  obtain rfl := BitVec.eq_of_toNat_eq hreg
  refine takeRm16_back fun b' _ rm rest eb hrm e => takeWord_back fun iw _ e' => ok_back ((hwf rm iw).trans hrm) ?_
  cases eb
  rw [henc, e, e', List.cons_append, List.append_assoc]

/-- A memory operand, or a register in its place. -/
theorem decMem_back {k : MemOp → Instr} {bad : BitVec 3 → Instr} (hwf : ∀ m, (k m).wf = m.wf := by intros; rfl)
    (henc : ∀ m, encode (k m) = op :: encMem m reg := by intros; rfl) (hbadwf : ∀ rm, (bad rm).wf = true := by intros; rfl)
    (hbad : ∀ rm, encode (bad rm) = [op, modRM 3 reg rm] := by intros; rfl) : DecodesBack (op :: b :: tl) (decMem (b :: tl) k bad) := by
  obtain rfl := BitVec.eq_of_toNat_eq hreg
  refine takeByte_back fun b' tl' e => ?_
  cases e
  split
  next hmod => exact ok_back (hbadwf _) (by rw [hbad, ← hmod, modRM_fields]; rfl)
  next hmod => exact takeMem_back hmod fun m rest hm he => ok_back ((hwf m).trans hm) (by rw [henc, he]; rfl)

/-- An unused slot. -/
theorem decSlot_back {k : BitVec 2 → BitVec 3 → Instr} (hwf : ∀ mod rm, (k mod rm).wf = true := by intros; rfl)
    (henc : ∀ mod rm, encode (k mod rm) = [op, modRM mod reg rm] := by intros; rfl) : DecodesBack (op :: b :: tl) (decSlot (b :: tl) k) := by
  obtain rfl := BitVec.eq_of_toNat_eq hreg
  exact ok_back (hwf _ _) (by rw [henc, modRM_fields]; rfl)

end Slots

/-! ## The groups of 30_encoding.md R117, slot by slot -/

/-- The slots of opcode `80` (30_encoding.md R117). -/
theorem decSlots80_back (b : Byte) (tl : List Byte) :
    ∀ n, n = (regField b).toNat → n < 8 → DecodesBack (0x80 :: b :: tl) (decSlots80 (b :: tl) n)
  | 0, hreg, _ => decRm8Ib_back 0 hreg
  | 1, hreg, _ => decRm8Ib_back 1 hreg
  | 2, hreg, _ => decRm8Ib_back 2 hreg
  | 3, hreg, _ => decRm8Ib_back 3 hreg
  | 4, hreg, _ => decRm8Ib_back 4 hreg
  | 5, hreg, _ => decRm8Ib_back 5 hreg
  | 6, hreg, _ => decRm8Ib_back 6 hreg
  | 7, hreg, _ => decRm8Ib_back 7 hreg
  | n + 8, _, hlt => absurd hlt (by omega)

/-- The slots of opcode `81` (30_encoding.md R117). -/
theorem decSlots81_back (b : Byte) (tl : List Byte) :
    ∀ n, n = (regField b).toNat → n < 8 → DecodesBack (0x81 :: b :: tl) (decSlots81 (b :: tl) n)
  | 0, hreg, _ => decRm16Iw_back 0 hreg
  | 1, hreg, _ => decRm16Iw_back 1 hreg
  | 2, hreg, _ => decRm16Iw_back 2 hreg
  | 3, hreg, _ => decRm16Iw_back 3 hreg
  | 4, hreg, _ => decRm16Iw_back 4 hreg
  | 5, hreg, _ => decRm16Iw_back 5 hreg
  | 6, hreg, _ => decRm16Iw_back 6 hreg
  | 7, hreg, _ => decRm16Iw_back 7 hreg
  | n + 8, _, hlt => absurd hlt (by omega)

/-- The slots of opcode `82` (30_encoding.md R117). -/
theorem decSlots82_back (b : Byte) (tl : List Byte) :
    ∀ n, n = (regField b).toNat → n < 8 → DecodesBack (0x82 :: b :: tl) (decSlots82 (b :: tl) n)
  | 0, hreg, _ => decRm8Ib_back 0 hreg
  | 1, hreg, _ => decRm8Ib_back 1 hreg
  | 2, hreg, _ => decRm8Ib_back 2 hreg
  | 3, hreg, _ => decRm8Ib_back 3 hreg
  | 4, hreg, _ => decRm8Ib_back 4 hreg
  | 5, hreg, _ => decRm8Ib_back 5 hreg
  | 6, hreg, _ => decRm8Ib_back 6 hreg
  | 7, hreg, _ => decRm8Ib_back 7 hreg
  | n + 8, _, hlt => absurd hlt (by omega)

/-- The slots of opcode `83` (30_encoding.md R117). -/
theorem decSlots83_back (b : Byte) (tl : List Byte) :
    ∀ n, n = (regField b).toNat → n < 8 → DecodesBack (0x83 :: b :: tl) (decSlots83 (b :: tl) n)
  | 0, hreg, _ => decRm16Ib_back 0 hreg
  | 1, hreg, _ => decRm16Ib_back 1 hreg
  | 2, hreg, _ => decRm16Ib_back 2 hreg
  | 3, hreg, _ => decRm16Ib_back 3 hreg
  | 4, hreg, _ => decRm16Ib_back 4 hreg
  | 5, hreg, _ => decRm16Ib_back 5 hreg
  | 6, hreg, _ => decRm16Ib_back 6 hreg
  | 7, hreg, _ => decRm16Ib_back 7 hreg
  | n + 8, _, hlt => absurd hlt (by omega)

/-- The slots of opcode `8F` (30_encoding.md R117). -/
theorem decSlots8F_back (b : Byte) (tl : List Byte) :
    ∀ n, n = (regField b).toNat → n < 8 → DecodesBack (0x8F :: b :: tl) (decSlots8F (b :: tl) n)
  | 0, hreg, _ => decRm16_back 0 hreg
  | 1, hreg, _ => decSlot_back 1 hreg
  | 2, hreg, _ => decSlot_back 2 hreg
  | 3, hreg, _ => decSlot_back 3 hreg
  | 4, hreg, _ => decSlot_back 4 hreg
  | 5, hreg, _ => decSlot_back 5 hreg
  | 6, hreg, _ => decSlot_back 6 hreg
  | 7, hreg, _ => decSlot_back 7 hreg
  | n + 8, _, hlt => absurd hlt (by omega)

/-- The slots of opcode `C6` (30_encoding.md R117). -/
theorem decSlotsC6_back (b : Byte) (tl : List Byte) :
    ∀ n, n = (regField b).toNat → n < 8 → DecodesBack (0xC6 :: b :: tl) (decSlotsC6 (b :: tl) n)
  | 0, hreg, _ => decRm8Ib_back 0 hreg
  | 1, hreg, _ => decSlot_back 1 hreg
  | 2, hreg, _ => decSlot_back 2 hreg
  | 3, hreg, _ => decSlot_back 3 hreg
  | 4, hreg, _ => decSlot_back 4 hreg
  | 5, hreg, _ => decSlot_back 5 hreg
  | 6, hreg, _ => decSlot_back 6 hreg
  | 7, hreg, _ => decSlot_back 7 hreg
  | n + 8, _, hlt => absurd hlt (by omega)

/-- The slots of opcode `C7` (30_encoding.md R117). -/
theorem decSlotsC7_back (b : Byte) (tl : List Byte) :
    ∀ n, n = (regField b).toNat → n < 8 → DecodesBack (0xC7 :: b :: tl) (decSlotsC7 (b :: tl) n)
  | 0, hreg, _ => decRm16Iw_back 0 hreg
  | 1, hreg, _ => decSlot_back 1 hreg
  | 2, hreg, _ => decSlot_back 2 hreg
  | 3, hreg, _ => decSlot_back 3 hreg
  | 4, hreg, _ => decSlot_back 4 hreg
  | 5, hreg, _ => decSlot_back 5 hreg
  | 6, hreg, _ => decSlot_back 6 hreg
  | 7, hreg, _ => decSlot_back 7 hreg
  | n + 8, _, hlt => absurd hlt (by omega)

/-- The slots of opcode `D0` (30_encoding.md R117). -/
theorem decSlotsD0_back (b : Byte) (tl : List Byte) :
    ∀ n, n = (regField b).toNat → n < 8 → DecodesBack (0xD0 :: b :: tl) (decSlotsD0 (b :: tl) n)
  | 0, hreg, _ => decRm8_back 0 hreg
  | 1, hreg, _ => decRm8_back 1 hreg
  | 2, hreg, _ => decRm8_back 2 hreg
  | 3, hreg, _ => decRm8_back 3 hreg
  | 4, hreg, _ => decRm8_back 4 hreg
  | 5, hreg, _ => decRm8_back 5 hreg
  | 6, hreg, _ => decSlot_back 6 hreg
  | 7, hreg, _ => decRm8_back 7 hreg
  | n + 8, _, hlt => absurd hlt (by omega)

/-- The slots of opcode `D1` (30_encoding.md R117). -/
theorem decSlotsD1_back (b : Byte) (tl : List Byte) :
    ∀ n, n = (regField b).toNat → n < 8 → DecodesBack (0xD1 :: b :: tl) (decSlotsD1 (b :: tl) n)
  | 0, hreg, _ => decRm16_back 0 hreg
  | 1, hreg, _ => decRm16_back 1 hreg
  | 2, hreg, _ => decRm16_back 2 hreg
  | 3, hreg, _ => decRm16_back 3 hreg
  | 4, hreg, _ => decRm16_back 4 hreg
  | 5, hreg, _ => decRm16_back 5 hreg
  | 6, hreg, _ => decSlot_back 6 hreg
  | 7, hreg, _ => decRm16_back 7 hreg
  | n + 8, _, hlt => absurd hlt (by omega)

/-- The slots of opcode `D2` (30_encoding.md R117). -/
theorem decSlotsD2_back (b : Byte) (tl : List Byte) :
    ∀ n, n = (regField b).toNat → n < 8 → DecodesBack (0xD2 :: b :: tl) (decSlotsD2 (b :: tl) n)
  | 0, hreg, _ => decRm8_back 0 hreg
  | 1, hreg, _ => decRm8_back 1 hreg
  | 2, hreg, _ => decRm8_back 2 hreg
  | 3, hreg, _ => decRm8_back 3 hreg
  | 4, hreg, _ => decRm8_back 4 hreg
  | 5, hreg, _ => decRm8_back 5 hreg
  | 6, hreg, _ => decSlot_back 6 hreg
  | 7, hreg, _ => decRm8_back 7 hreg
  | n + 8, _, hlt => absurd hlt (by omega)

/-- The slots of opcode `D3` (30_encoding.md R117). -/
theorem decSlotsD3_back (b : Byte) (tl : List Byte) :
    ∀ n, n = (regField b).toNat → n < 8 → DecodesBack (0xD3 :: b :: tl) (decSlotsD3 (b :: tl) n)
  | 0, hreg, _ => decRm16_back 0 hreg
  | 1, hreg, _ => decRm16_back 1 hreg
  | 2, hreg, _ => decRm16_back 2 hreg
  | 3, hreg, _ => decRm16_back 3 hreg
  | 4, hreg, _ => decRm16_back 4 hreg
  | 5, hreg, _ => decRm16_back 5 hreg
  | 6, hreg, _ => decSlot_back 6 hreg
  | 7, hreg, _ => decRm16_back 7 hreg
  | n + 8, _, hlt => absurd hlt (by omega)

/-- The slots of opcode `F6` (30_encoding.md R117). -/
theorem decSlotsF6_back (b : Byte) (tl : List Byte) :
    ∀ n, n = (regField b).toNat → n < 8 → DecodesBack (0xF6 :: b :: tl) (decSlotsF6 (b :: tl) n)
  | 0, hreg, _ => decRm8Ib_back 0 hreg
  | 1, hreg, _ => decSlot_back 1 hreg
  | 2, hreg, _ => decRm8_back 2 hreg
  | 3, hreg, _ => decSlot_back 3 hreg
  | 4, hreg, _ => decRm8_back 4 hreg
  | 5, hreg, _ => decSlot_back 5 hreg
  | 6, hreg, _ => decRm8_back 6 hreg
  | 7, hreg, _ => decSlot_back 7 hreg
  | n + 8, _, hlt => absurd hlt (by omega)

/-- The slots of opcode `F7` (30_encoding.md R117). -/
theorem decSlotsF7_back (b : Byte) (tl : List Byte) :
    ∀ n, n = (regField b).toNat → n < 8 → DecodesBack (0xF7 :: b :: tl) (decSlotsF7 (b :: tl) n)
  | 0, hreg, _ => decRm16Iw_back 0 hreg
  | 1, hreg, _ => decSlot_back 1 hreg
  | 2, hreg, _ => decRm16_back 2 hreg
  | 3, hreg, _ => decSlot_back 3 hreg
  | 4, hreg, _ => decRm16_back 4 hreg
  | 5, hreg, _ => decSlot_back 5 hreg
  | 6, hreg, _ => decRm16_back 6 hreg
  | 7, hreg, _ => decSlot_back 7 hreg
  | n + 8, _, hlt => absurd hlt (by omega)

/-- The slots of opcode `FE` (30_encoding.md R117). -/
theorem decSlotsFE_back (b : Byte) (tl : List Byte) :
    ∀ n, n = (regField b).toNat → n < 8 → DecodesBack (0xFE :: b :: tl) (decSlotsFE (b :: tl) n)
  | 0, hreg, _ => decRm8_back 0 hreg
  | 1, hreg, _ => decRm8_back 1 hreg
  | 2, hreg, _ => decSlot_back 2 hreg
  | 3, hreg, _ => decSlot_back 3 hreg
  | 4, hreg, _ => decSlot_back 4 hreg
  | 5, hreg, _ => decSlot_back 5 hreg
  | 6, hreg, _ => decSlot_back 6 hreg
  | 7, hreg, _ => decSlot_back 7 hreg
  | n + 8, _, hlt => absurd hlt (by omega)

/-- The slots of opcode `FF` (30_encoding.md R117). -/
theorem decSlotsFF_back (b : Byte) (tl : List Byte) :
    ∀ n, n = (regField b).toNat → n < 8 → DecodesBack (0xFF :: b :: tl) (decSlotsFF (b :: tl) n)
  | 0, hreg, _ => decRm16_back 0 hreg
  | 1, hreg, _ => decRm16_back 1 hreg
  | 2, hreg, _ => decRm16_back 2 hreg
  | 3, hreg, _ => decMem_back 3 hreg
  | 4, hreg, _ => decRm16_back 4 hreg
  | 5, hreg, _ => decMem_back 5 hreg
  | 6, hreg, _ => decRm16_back 6 hreg
  | 7, hreg, _ => decSlot_back 7 hreg
  | n + 8, _, hlt => absurd hlt (by omega)

/-! ## The opcode map -/

/-- Opcodes `00` to `0F` (30_encoding.md R116). -/
theorem decRow0_back (lo : Nat) (hlo : lo < 16) (bs : List Byte) : DecodesBack (BitVec.ofNat 8 (0x00 + lo) :: bs) (decRow0 lo bs) :=
  match lo, hlo with
  | 0, _ => decRm8R8_back
  | 1, _ => decRm16R16_back
  | 2, _ => decRm8R8_backRegFirst
  | 3, _ => decRm16R16_backRegFirst
  | 4, _ => decIb_back
  | 5, _ => decIw_back
  | 6, _ => ok_back rfl rfl
  | 7, _ => ok_back rfl rfl
  | 8, _ => decRm8R8_back
  | 9, _ => decRm16R16_back
  | 10, _ => decRm8R8_backRegFirst
  | 11, _ => decRm16R16_backRegFirst
  | 12, _ => decIb_back
  | 13, _ => decIw_back
  | 14, _ => ok_back rfl rfl
  | 15, _ => ok_back rfl rfl
  | n + 16, hlo => absurd hlo (by omega)

/-- Opcodes `10` to `1F` (30_encoding.md R116). -/
theorem decRow1_back (lo : Nat) (hlo : lo < 16) (bs : List Byte) : DecodesBack (BitVec.ofNat 8 (0x10 + lo) :: bs) (decRow1 lo bs) :=
  match lo, hlo with
  | 0, _ => decRm8R8_back
  | 1, _ => decRm16R16_back
  | 2, _ => decRm8R8_backRegFirst
  | 3, _ => decRm16R16_backRegFirst
  | 4, _ => decIb_back
  | 5, _ => decIw_back
  | 6, _ => ok_back rfl rfl
  | 7, _ => ok_back rfl rfl
  | 8, _ => decRm8R8_back
  | 9, _ => decRm16R16_back
  | 10, _ => decRm8R8_backRegFirst
  | 11, _ => decRm16R16_backRegFirst
  | 12, _ => decIb_back
  | 13, _ => decIw_back
  | 14, _ => ok_back rfl rfl
  | 15, _ => ok_back rfl rfl
  | n + 16, hlo => absurd hlo (by omega)

/-- Opcodes `20` to `2F` (30_encoding.md R116). -/
theorem decRow2_back (lo : Nat) (hlo : lo < 16) (bs : List Byte) : DecodesBack (BitVec.ofNat 8 (0x20 + lo) :: bs) (decRow2 lo bs) :=
  match lo, hlo with
  | 0, _ => decRm8R8_back
  | 1, _ => decRm16R16_back
  | 2, _ => decRm8R8_backRegFirst
  | 3, _ => decRm16R16_backRegFirst
  | 4, _ => decIb_back
  | 5, _ => decIw_back
  | 6, _ => ok_back rfl rfl
  | 7, _ => ok_back rfl rfl
  | 8, _ => decRm8R8_back
  | 9, _ => decRm16R16_back
  | 10, _ => decRm8R8_backRegFirst
  | 11, _ => decRm16R16_backRegFirst
  | 12, _ => decIb_back
  | 13, _ => decIw_back
  | 14, _ => ok_back rfl rfl
  | 15, _ => ok_back rfl rfl
  | n + 16, hlo => absurd hlo (by omega)

/-- Opcodes `30` to `3F` (30_encoding.md R116). -/
theorem decRow3_back (lo : Nat) (hlo : lo < 16) (bs : List Byte) : DecodesBack (BitVec.ofNat 8 (0x30 + lo) :: bs) (decRow3 lo bs) :=
  match lo, hlo with
  | 0, _ => decRm8R8_back
  | 1, _ => decRm16R16_back
  | 2, _ => decRm8R8_backRegFirst
  | 3, _ => decRm16R16_backRegFirst
  | 4, _ => decIb_back
  | 5, _ => decIw_back
  | 6, _ => ok_back rfl rfl
  | 7, _ => ok_back rfl rfl
  | 8, _ => decRm8R8_back
  | 9, _ => decRm16R16_back
  | 10, _ => decRm8R8_backRegFirst
  | 11, _ => decRm16R16_backRegFirst
  | 12, _ => decIb_back
  | 13, _ => decIw_back
  | 14, _ => ok_back rfl rfl
  | 15, _ => ok_back rfl rfl
  | n + 16, hlo => absurd hlo (by omega)

/-- Opcodes `40` to `4F` (30_encoding.md R116). -/
theorem decRow4_back (lo : Nat) (hlo : lo < 16) (bs : List Byte) : DecodesBack (BitVec.ofNat 8 (0x40 + lo) :: bs) (decRow4 lo bs) :=
  match lo, hlo with
  | 0, _ => ok_back rfl rfl
  | 1, _ => ok_back rfl rfl
  | 2, _ => ok_back rfl rfl
  | 3, _ => ok_back rfl rfl
  | 4, _ => ok_back rfl rfl
  | 5, _ => ok_back rfl rfl
  | 6, _ => ok_back rfl rfl
  | 7, _ => ok_back rfl rfl
  | 8, _ => ok_back rfl rfl
  | 9, _ => ok_back rfl rfl
  | 10, _ => ok_back rfl rfl
  | 11, _ => ok_back rfl rfl
  | 12, _ => ok_back rfl rfl
  | 13, _ => ok_back rfl rfl
  | 14, _ => ok_back rfl rfl
  | 15, _ => ok_back rfl rfl
  | n + 16, hlo => absurd hlo (by omega)

/-- Opcodes `50` to `5F` (30_encoding.md R116). -/
theorem decRow5_back (lo : Nat) (hlo : lo < 16) (bs : List Byte) : DecodesBack (BitVec.ofNat 8 (0x50 + lo) :: bs) (decRow5 lo bs) :=
  match lo, hlo with
  | 0, _ => ok_back rfl rfl
  | 1, _ => ok_back rfl rfl
  | 2, _ => ok_back rfl rfl
  | 3, _ => ok_back rfl rfl
  | 4, _ => ok_back rfl rfl
  | 5, _ => ok_back rfl rfl
  | 6, _ => ok_back rfl rfl
  | 7, _ => ok_back rfl rfl
  | 8, _ => ok_back rfl rfl
  | 9, _ => ok_back rfl rfl
  | 10, _ => ok_back rfl rfl
  | 11, _ => ok_back rfl rfl
  | 12, _ => ok_back rfl rfl
  | 13, _ => ok_back rfl rfl
  | 14, _ => ok_back rfl rfl
  | 15, _ => ok_back rfl rfl
  | n + 16, hlo => absurd hlo (by omega)

/-- Opcodes `60` to `6F` (30_encoding.md R116). -/
theorem decRow6_back (lo : Nat) (hlo : lo < 16) (bs : List Byte) : DecodesBack (BitVec.ofNat 8 (0x60 + lo) :: bs) (decRow6 lo bs) :=
  match lo, hlo with
  | 0, _ => ok_back rfl rfl
  | 1, _ => ok_back rfl rfl
  | 2, _ => ok_back rfl rfl
  | 3, _ => ok_back rfl rfl
  | 4, _ => ok_back rfl rfl
  | 5, _ => ok_back rfl rfl
  | 6, _ => ok_back rfl rfl
  | 7, _ => ok_back rfl rfl
  | 8, _ => ok_back rfl rfl
  | 9, _ => ok_back rfl rfl
  | 10, _ => ok_back rfl rfl
  | 11, _ => ok_back rfl rfl
  | 12, _ => ok_back rfl rfl
  | 13, _ => ok_back rfl rfl
  | 14, _ => ok_back rfl rfl
  | 15, _ => ok_back rfl rfl
  | n + 16, hlo => absurd hlo (by omega)

/-- Opcodes `70` to `7F` (30_encoding.md R116). -/
theorem decRow7_back (lo : Nat) (hlo : lo < 16) (bs : List Byte) : DecodesBack (BitVec.ofNat 8 (0x70 + lo) :: bs) (decRow7 lo bs) :=
  match lo, hlo with
  | 0, _ => decIb_back
  | 1, _ => decIb_back
  | 2, _ => decIb_back
  | 3, _ => decIb_back
  | 4, _ => decIb_back
  | 5, _ => decIb_back
  | 6, _ => decIb_back
  | 7, _ => decIb_back
  | 8, _ => decIb_back
  | 9, _ => decIb_back
  | 10, _ => decIb_back
  | 11, _ => decIb_back
  | 12, _ => decIb_back
  | 13, _ => decIb_back
  | 14, _ => decIb_back
  | 15, _ => decIb_back
  | n + 16, hlo => absurd hlo (by omega)

/-- Opcodes `80` to `8F` (30_encoding.md R116). -/
theorem decRow8_back (lo : Nat) (hlo : lo < 16) (bs : List Byte) : DecodesBack (BitVec.ofNat 8 (0x80 + lo) :: bs) (decRow8 lo bs) :=
  match lo, hlo with
  | 0, _ => decGroup_back decSlots80_back
  | 1, _ => decGroup_back decSlots81_back
  | 2, _ => decGroup_back decSlots82_back
  | 3, _ => decGroup_back decSlots83_back
  | 4, _ => decRm8R8_back
  | 5, _ => decRm16R16_back
  | 6, _ => decRm8R8_back
  | 7, _ => decRm16R16_back
  | 8, _ => decRm8R8_back
  | 9, _ => decRm16R16_back
  | 10, _ => decRm8R8_backRegFirst
  | 11, _ => decRm16R16_backRegFirst
  | 12, _ => decSReg_back
  | 13, _ => decMemR16_back
  | 14, _ => decSReg_back (k := fun rm sr => .movSregRm16 sr rm)
  | 15, _ => decGroup_back decSlots8F_back
  | n + 16, hlo => absurd hlo (by omega)

/-- Opcodes `90` to `9F` (30_encoding.md R116). -/
theorem decRow9_back (lo : Nat) (hlo : lo < 16) (bs : List Byte) : DecodesBack (BitVec.ofNat 8 (0x90 + lo) :: bs) (decRow9 lo bs) :=
  match lo, hlo with
  | 0, _ => ok_back rfl rfl
  | 1, _ => ok_back rfl rfl
  | 2, _ => ok_back rfl rfl
  | 3, _ => ok_back rfl rfl
  | 4, _ => ok_back rfl rfl
  | 5, _ => ok_back rfl rfl
  | 6, _ => ok_back rfl rfl
  | 7, _ => ok_back rfl rfl
  | 8, _ => ok_back rfl rfl
  | 9, _ => ok_back rfl rfl
  | 10, _ => decPtr_back
  | 11, _ => ok_back rfl rfl
  | 12, _ => ok_back rfl rfl
  | 13, _ => ok_back rfl rfl
  | 14, _ => ok_back rfl rfl
  | 15, _ => ok_back rfl rfl
  | n + 16, hlo => absurd hlo (by omega)

/-- Opcodes `A0` to `AF` (30_encoding.md R116). -/
theorem decRowA_back (lo : Nat) (hlo : lo < 16) (bs : List Byte) : DecodesBack (BitVec.ofNat 8 (0xA0 + lo) :: bs) (decRowA lo bs) :=
  match lo, hlo with
  | 0, _ => decIw_back
  | 1, _ => decIw_back
  | 2, _ => decIw_back
  | 3, _ => decIw_back
  | 4, _ => ok_back rfl rfl
  | 5, _ => ok_back rfl rfl
  | 6, _ => ok_back rfl rfl
  | 7, _ => ok_back rfl rfl
  | 8, _ => decIb_back
  | 9, _ => decIw_back
  | 10, _ => ok_back rfl rfl
  | 11, _ => ok_back rfl rfl
  | 12, _ => ok_back rfl rfl
  | 13, _ => ok_back rfl rfl
  | 14, _ => ok_back rfl rfl
  | 15, _ => ok_back rfl rfl
  | n + 16, hlo => absurd hlo (by omega)

/-- Opcodes `B0` to `BF` (30_encoding.md R116). -/
theorem decRowB_back (lo : Nat) (hlo : lo < 16) (bs : List Byte) : DecodesBack (BitVec.ofNat 8 (0xB0 + lo) :: bs) (decRowB lo bs) :=
  match lo, hlo with
  | 0, _ => decIb_back
  | 1, _ => decIb_back
  | 2, _ => decIb_back
  | 3, _ => decIb_back
  | 4, _ => decIb_back
  | 5, _ => decIb_back
  | 6, _ => decIb_back
  | 7, _ => decIb_back
  | 8, _ => decIw_back
  | 9, _ => decIw_back
  | 10, _ => decIw_back
  | 11, _ => decIw_back
  | 12, _ => decIw_back
  | 13, _ => decIw_back
  | 14, _ => decIw_back
  | 15, _ => decIw_back
  | n + 16, hlo => absurd hlo (by omega)

/-- Opcodes `C0` to `CF` (30_encoding.md R116). -/
theorem decRowC_back (lo : Nat) (hlo : lo < 16) (bs : List Byte) : DecodesBack (BitVec.ofNat 8 (0xC0 + lo) :: bs) (decRowC lo bs) :=
  match lo, hlo with
  | 0, _ => ok_back rfl rfl
  | 1, _ => ok_back rfl rfl
  | 2, _ => decIw_back
  | 3, _ => ok_back rfl rfl
  | 4, _ => decMemR16_back
  | 5, _ => decMemR16_back
  | 6, _ => decGroup_back decSlotsC6_back
  | 7, _ => decGroup_back decSlotsC7_back
  | 8, _ => ok_back rfl rfl
  | 9, _ => ok_back rfl rfl
  | 10, _ => decIw_back
  | 11, _ => ok_back rfl rfl
  | 12, _ => ok_back rfl rfl
  | 13, _ => decIb_back
  | 14, _ => ok_back rfl rfl
  | 15, _ => ok_back rfl rfl
  | n + 16, hlo => absurd hlo (by omega)

/-- Opcodes `D0` to `DF` (30_encoding.md R116). -/
theorem decRowD_back (lo : Nat) (hlo : lo < 16) (bs : List Byte) : DecodesBack (BitVec.ofNat 8 (0xD0 + lo) :: bs) (decRowD lo bs) :=
  match lo, hlo with
  | 0, _ => decGroup_back decSlotsD0_back
  | 1, _ => decGroup_back decSlotsD1_back
  | 2, _ => decGroup_back decSlotsD2_back
  | 3, _ => decGroup_back decSlotsD3_back
  | 4, _ => ok_back rfl rfl
  | 5, _ => ok_back rfl rfl
  | 6, _ => ok_back rfl rfl
  | 7, _ => ok_back rfl rfl
  | 8, _ => ok_back rfl rfl
  | 9, _ => ok_back rfl rfl
  | 10, _ => ok_back rfl rfl
  | 11, _ => ok_back rfl rfl
  | 12, _ => ok_back rfl rfl
  | 13, _ => ok_back rfl rfl
  | 14, _ => ok_back rfl rfl
  | 15, _ => ok_back rfl rfl
  | n + 16, hlo => absurd hlo (by omega)

/-- Opcodes `E0` to `EF` (30_encoding.md R116). -/
theorem decRowE_back (lo : Nat) (hlo : lo < 16) (bs : List Byte) : DecodesBack (BitVec.ofNat 8 (0xE0 + lo) :: bs) (decRowE lo bs) :=
  match lo, hlo with
  | 0, _ => decIb_back
  | 1, _ => decIb_back
  | 2, _ => decIb_back
  | 3, _ => decIb_back
  | 4, _ => ok_back rfl rfl
  | 5, _ => ok_back rfl rfl
  | 6, _ => ok_back rfl rfl
  | 7, _ => ok_back rfl rfl
  | 8, _ => decIw_back
  | 9, _ => decIw_back
  | 10, _ => decPtr_back
  | 11, _ => decIb_back
  | 12, _ => ok_back rfl rfl
  | 13, _ => ok_back rfl rfl
  | 14, _ => ok_back rfl rfl
  | 15, _ => ok_back rfl rfl
  | n + 16, hlo => absurd hlo (by omega)

/-- Opcodes `F0` to `FF` (30_encoding.md R116). -/
theorem decRowF_back (lo : Nat) (hlo : lo < 16) (bs : List Byte) : DecodesBack (BitVec.ofNat 8 (0xF0 + lo) :: bs) (decRowF lo bs) :=
  match lo, hlo with
  | 0, _ => ok_back rfl rfl
  | 1, _ => ok_back rfl rfl
  | 2, _ => ok_back rfl rfl
  | 3, _ => ok_back rfl rfl
  | 4, _ => ok_back rfl rfl
  | 5, _ => ok_back rfl rfl
  | 6, _ => decGroup_back decSlotsF6_back
  | 7, _ => decGroup_back decSlotsF7_back
  | 8, _ => ok_back rfl rfl
  | 9, _ => ok_back rfl rfl
  | 10, _ => ok_back rfl rfl
  | 11, _ => ok_back rfl rfl
  | 12, _ => ok_back rfl rfl
  | 13, _ => ok_back rfl rfl
  | 14, _ => decGroup_back decSlotsFE_back
  | 15, _ => decGroup_back decSlotsFF_back
  | n + 16, hlo => absurd hlo (by omega)

/-- The opcode byte put together from its row and its place in the row. -/
theorem DecodesBack.of_opcode {op : Byte} {bs : List Byte} {d : Decoded} {row lo : Nat}
    (h : DecodesBack (BitVec.ofNat 8 (row + lo) :: bs) d) (hop : op.toNat = row + lo) : DecodesBack (op :: bs) d := by
  rwa [← hop, BitVec.ofNat_toNat, BitVec.setWidth_eq] at h

/-- Settles O2: the high half of the opcode byte leads to its row of the opcode map, each of whose entries reads back. -/
theorem encodeAfterDecode : Obligations.EncodeAfterDecode := by
  intro bs rest i h
  match bs with
  | [] => cases h
  | op :: bs =>
    have hlo : op.toNat % 16 < 16 := Nat.mod_lt _ (by decide)
    suffices DecodesBack (op :: bs) (decode (op :: bs)) from this i rest h
    simp only [decode]
    have hhi : op.toNat / 16 < 16 := by have := op.isLt; omega
    interval_cases hrow : op.toNat / 16
    · exact DecodesBack.of_opcode (decRow0_back _ hlo bs) (by omega)
    · exact DecodesBack.of_opcode (decRow1_back _ hlo bs) (by omega)
    · exact DecodesBack.of_opcode (decRow2_back _ hlo bs) (by omega)
    · exact DecodesBack.of_opcode (decRow3_back _ hlo bs) (by omega)
    · exact DecodesBack.of_opcode (decRow4_back _ hlo bs) (by omega)
    · exact DecodesBack.of_opcode (decRow5_back _ hlo bs) (by omega)
    · exact DecodesBack.of_opcode (decRow6_back _ hlo bs) (by omega)
    · exact DecodesBack.of_opcode (decRow7_back _ hlo bs) (by omega)
    · exact DecodesBack.of_opcode (decRow8_back _ hlo bs) (by omega)
    · exact DecodesBack.of_opcode (decRow9_back _ hlo bs) (by omega)
    · exact DecodesBack.of_opcode (decRowA_back _ hlo bs) (by omega)
    · exact DecodesBack.of_opcode (decRowB_back _ hlo bs) (by omega)
    · exact DecodesBack.of_opcode (decRowC_back _ hlo bs) (by omega)
    · exact DecodesBack.of_opcode (decRowD_back _ hlo bs) (by omega)
    · exact DecodesBack.of_opcode (decRowE_back _ hlo bs) (by omega)
    · exact DecodesBack.of_opcode (decRowF_back _ hlo bs) (by omega)

end Sys2Proof
end

section
/-! PROOFS. Every step keeps the invariant: the host's calls keep it as it stands, an instruction keeps the part that is true inside a tick,
and the end of the tick restores the rest (10_state.md R46 to R48, 60_exceptions.md R371 to R374). -/

namespace Sys2Proof.Machine

/-! ## One turn of the repetition loop (43_string.md R216), a case an equation -/

section Turn

variable {i : Instr} {iter : State → State} {c : Bool} {s : State} (n : Nat)

/-- With CX at 0 the loop is over. -/
theorem repLoop_done (hcx : s.regs.CX = 0) : repLoop i iter c (n + 1) s = s := by
  rw [repLoop, if_pos hcx]

/-- A compare whose ZF fails to match the prefix ends the loop. -/
theorem repLoop_zfEnds (hcx : s.regs.CX ≠ 0) (hzf : (iter s).countDown.zfEnds c = true) :
    repLoop i iter c (n + 1) s = (iter s).countDown := by
  rw [repLoop, if_neg hcx, if_pos hzf]

/-- The host lets the loop go on. -/
theorem repLoop_running (hcx : s.regs.CX ≠ 0) (hzf : ¬(iter s).countDown.zfEnds c = true)
    (hrun : (iter s).countDown.suspend.run_state = .running) :
    repLoop i iter c (n + 1) s = repLoop i iter c n (iter s).countDown.suspend := by
  simp only [repLoop, if_neg hcx, if_neg hzf, hrun]

/-- The host pauses the loop. -/
theorem repLoop_paused (hcx : s.regs.CX ≠ 0) (hzf : ¬(iter s).countDown.zfEnds c = true)
    (hrun : (iter s).countDown.suspend.run_state = .paused) :
    repLoop i iter c (n + 1) s = { (iter s).countDown.suspend with pending := some i } := by
  simp only [repLoop, if_neg hcx, if_neg hzf, hrun]

/-- The host ends the run. -/
theorem repLoop_stopped (hcx : s.regs.CX ≠ 0) (hzf : ¬(iter s).countDown.zfEnds c = true)
    (hrun : (iter s).countDown.suspend.run_state = .stopped) :
    repLoop i iter c (n + 1) s = (iter s).countDown.suspend := by
  simp only [repLoop, if_neg hcx, if_neg hzf, hrun]

end Turn

/-! ## The host's calls and the look at the requested state -/

/-- A call of the host keeps the invariant: a loop waits only while Paused, and no call leaves or enters Paused. -/
theorem inv_hostCall (s : State) (c : HostCall) (h : Inv s) : Inv (s.hostCall c) := by
  obtain ⟨hwf, hbooted, hfresh, hnodup⟩ := base_hostCall s c h.base
  obtain ⟨hpending, hcur, -⟩ := hostCall_keeps s c
  obtain ⟨hrun, hidle⟩ := hostCall_run s c
  refine ⟨hwf, fun i hi => ?_, fun hi => hcur.trans (h.idle (hpending ▸ hi)), hidle h.stopped_idle, hbooted, hfresh, hnodup⟩
  obtain ⟨hpaused, hstring, hrep⟩ := h.pending_paused i (hpending ▸ hi)
  rcases hrun with hsame | ⟨hstopped, -⟩
  · exact ⟨hsame.trans hpaused, hstring, hcur ▸ hrep⟩
  · exact absurd (hpaused.symm.trans hstopped) (by decide)

/-- The host's next batch keeps the invariant. -/
theorem inv_deliver (s : State) (h : Inv s) : Inv s.deliver := by
  rw [deliver_eq]
  exact hostCalls_induct (P := Inv) _ (fun t ht c _ => inv_hostCall t c ht) _
    ⟨h.mem_wf, h.pending_paused, h.idle, h.stopped_idle, h.running_booted, h.handles_fresh, h.handles_nodup⟩

/-- Entering Running or Paused from a state that is not Stopped keeps what stays true inside a tick. -/
theorem Inv.Base.enter {s : State} (h : Inv.Base s) (r : RunState) (hs : s.run_state ≠ .stopped) : Inv.Base (s.enter r) :=
  h.of h.mem_wf (fun _ => h.running_booted hs) rfl rfl

/-- The end of a run keeps what stays true inside a tick. -/
theorem Inv.Base.endRun {s : State} (h : Inv.Base s) : Inv.Base s.endRun :=
  h.of h.mem_wf (fun hrun => absurd rfl hrun) rfl rfl

/-- The end of a run leaves the whole invariant: nothing is in flight. -/
theorem inv_endRun {s : State} (h : Inv.Base s) : Inv s.endRun :=
  ⟨h.mem_wf, fun _ hi => absurd hi.symm (Option.some_ne_none _), fun _ => rfl, fun _ => rfl, fun hrun => absurd rfl hrun,
    h.handles_fresh, h.handles_nodup⟩

/-- What the look at the requested state can do (60_exceptions.md R374). -/
theorem sample_cases (s : State) :
    s.sample = s ∨ (s.run_state = .running ∧ s.sample = s.enter .paused) ∨ (s.run_state = .paused ∧ s.sample = s.enter .running) ∨
      (s.run_state ≠ .stopped ∧ s.sample = s.endRun) := by
  unfold State.sample
  cases hrun : s.run_state <;> cases hrequested : s.requested_state <;> simp

/-- The look at the requested state keeps what stays true inside a tick. -/
theorem base_sample (s : State) (h : Inv.Base s) : Inv.Base s.sample := by
  rcases sample_cases s with e | ⟨hrun, e⟩ | ⟨hrun, e⟩ | ⟨-, e⟩ <;> rw [e]
  · exact h
  · exact h.enter _ (by rw [hrun]; decide)
  · exact h.enter _ (by rw [hrun]; decide)
  · exact h.endRun

/-- The look at the requested state keeps the invariant where no tick follows it. -/
theorem inv_sample (s : State) (h : Inv s) (hrest : s.sample.run_state ≠ .running) : Inv s.sample := by
  rcases sample_cases s with e | ⟨hrun, e⟩ | ⟨hrun, e⟩ | ⟨-, e⟩ <;> rw [e] at hrest ⊢
  · exact h
  · have hnone : ∀ i, s.pending ≠ some i := fun i hi => absurd (hrun.symm.trans (h.pending_paused i hi).1) (by decide)
    exact ⟨h.mem_wf, fun i hi => absurd hi (hnone i), h.idle, nofun, fun _ => h.running_booted (by rw [hrun]; decide),
      h.handles_fresh, h.handles_nodup⟩
  · exact absurd rfl hrest
  · exact inv_endRun h.base

/-! ## Inside a tick -/

/-- What holds while an instruction is executed: the machine runs and no loop waits. -/
structure InTick (s : State) : Prop extends Inv.Base s where
  running : s.run_state = .running
  no_pending : s.pending = none

/-- What holds when an instruction has been executed, before its record is emptied. -/
structure AfterExec (s : State) : Prop extends Inv.Base s where
  pending_paused : ∀ i, s.pending = some i → s.run_state = .paused ∧ isStringInstr i = true ∧ s.cur.rep ≠ .none
  stopped_idle : s.run_state = .stopped → s.requested_state = .stopped

/-- An instruction that leaves the machine running has nothing to show. -/
theorem InTick.afterExec {s : State} (h : InTick s) : AfterExec s :=
  ⟨h.toBase, fun i hi => absurd (h.no_pending.symm.trans hi).symm (Option.some_ne_none _), fun hs => absurd (h.running.symm.trans hs) (by decide)⟩

/-- The end of a run in a tick. -/
theorem afterExec_endRun {s : State} (h : Inv.Base s) : AfterExec s.endRun := ⟨h.endRun, fun _ hi => absurd hi.symm (Option.some_ne_none _), fun _ => rfl⟩

/-- Emptying the record of the instruction restores the invariant (10_state.md R46). -/
theorem AfterExec.inv {s : State} (h : AfterExec s) : Inv s.endInstr := by
  unfold State.endInstr
  split
  next hsome =>
    exact ⟨h.mem_wf, h.pending_paused, fun hn => absurd hsome (by simp [hn]), h.stopped_idle, h.running_booted, h.handles_fresh,
      h.handles_nodup⟩
  next hnone =>
    exact ⟨h.mem_wf, fun i hi => absurd (congrArg Option.isSome hi) hnone, fun _ => rfl, h.stopped_idle, h.running_booted,
      h.handles_fresh, h.handles_nodup⟩

/-- A plain change stays inside the tick. -/
theorem InTick.plain {s t : State} (h : InTick s) (ht : Plain s t) : InTick t :=
  ⟨h.toBase.plain ht, by rw [ht.rest]; exact h.running, by rw [ht.rest]; exact h.no_pending⟩

/-- A change of the record of the instruction stays inside the tick. -/
theorem InTick.setCur {s : State} (h : InTick s) (r : InFlight) : InTick { s with cur := r } :=
  ⟨h.toBase.of h.mem_wf h.running_booted rfl rfl, h.running, h.no_pending⟩

/-- A batch of calls inside a tick: none of them leaves Running. -/
theorem inTick_deliver (s : State) (h : InTick s) : InTick s.deliver ∧ s.deliver.cur = s.cur := by
  rw [deliver_eq]
  refine hostCalls_induct (P := fun t => InTick t ∧ t.cur = s.cur) _ (fun t ht c _ => ?_) _
    ⟨⟨h.toBase.of h.mem_wf h.running_booted rfl rfl, h.running, h.no_pending⟩, rfl⟩
  obtain ⟨htick, hcur⟩ := ht
  obtain ⟨hpending, hkeep, -⟩ := hostCall_keeps t c
  refine ⟨⟨base_hostCall t c htick.toBase, ?_, hpending.trans htick.no_pending⟩, hkeep.trans hcur⟩
  rcases (hostCall_run t c).1 with hsame | ⟨hstopped, -⟩
  · exact hsame.trans htick.running
  · exact absurd (htick.running.symm.trans hstopped) (by decide)

/-- A suspension point between two iterations: the loop goes on, waits, or is over. -/
theorem suspend_inTick (s : State) (h : InTick s) :
    (InTick s.suspend ∧ s.suspend.cur = s.cur) ∨
      (Inv.Base s.suspend ∧ s.suspend.run_state = .paused ∧ s.suspend.cur = s.cur) ∨
      (AfterExec s.suspend ∧ s.suspend.run_state = .stopped) := by
  obtain ⟨htick, hcur⟩ := inTick_deliver s h
  unfold State.suspend
  rcases sample_cases s.deliver with e | ⟨hrun, e⟩ | ⟨hrun, e⟩ | ⟨-, e⟩ <;> rw [e]
  · exact .inl ⟨htick, hcur⟩
  · exact .inr (.inl ⟨htick.toBase.enter _ (by rw [hrun]; decide), rfl, hcur⟩)
  · exact absurd (htick.running.symm.trans hrun) (by decide)
  · exact .inr (.inr ⟨afterExec_endRun htick.toBase, rfl⟩)

/-- A repetition loop: what the iterations do is plain, and a pause leaves the loop of this string row to wait. -/
theorem afterExec_repLoop (i : Instr) (hi : isStringInstr i = true) (n : Nat) (s : State) (h : InTick s) (hrep : s.cur.rep ≠ .none) :
    AfterExec (repLoop i (iterOf i) (comparesElements i) n s) := by
  obtain ⟨-, hiter⟩ := exec_string i hi
  induction n generalizing s with
  | zero => exact h.afterExec
  | succ n ih =>
    have hturn : InTick (iterOf i s).countDown := (h.plain (hiter.loc s).toPlain).plain (local_setReg16 _ .cx _).toPlain
    have hcur : (iterOf i s).countDown.cur = s.cur := by rw [iter_countDown_only hiter s]
    by_cases hcx : s.regs.CX = 0
    · rw [repLoop_done n hcx]
      exact h.afterExec
    by_cases hzf : (iterOf i s).countDown.zfEnds (comparesElements i) = true
    · rw [repLoop_zfEnds n hcx hzf]
      exact hturn.afterExec
    rcases suspend_inTick _ hturn with ⟨hgo, hkeep⟩ | ⟨hbase, hpaused, hkeep⟩ | ⟨hover, hstopped⟩
    · rw [repLoop_running n hcx hzf hgo.running]
      exact ih _ hgo (by rw [hkeep, hcur]; exact hrep)
    · rw [repLoop_paused n hcx hzf hpaused]
      refine ⟨hbase.of hbase.mem_wf hbase.running_booted rfl rfl, fun j hj => ?_, fun hs => absurd (hpaused.symm.trans hs) (by decide)⟩
      cases Option.some.inj hj
      exact ⟨hpaused, hi, by rw [hkeep, hcur]; exact hrep⟩
    · rw [repLoop_stopped n hcx hzf hstopped]
      exact hover

/-- A dispatch, by the layer's answer (60_exceptions.md R340). -/
theorem afterExec_interrupt (s t : State) (vector : Byte) (h : InTick s) (ht : s.interrupt vector = .next t) : AfterExec t := by
  obtain ⟨-, -, hrun, -, hcallbacks, hhandle, -, hpending, -, hbooted, -, -, -, -⟩ := afterCall_keeps s vector
  have hwf : s.enterInterrupt.mem.wf = true := by
    rw [enterInterrupt_eq]
    exact Memory.wf_write16 _ _ _ _ (Memory.wf_write16 _ _ _ _ (Memory.wf_write16 _ _ _ _ h.mem_wf))
  have hnone : ∀ {u : State}, u.pending = none → ∀ j, u.pending = some j → u.run_state = .paused ∧ isStringInstr j = true ∧ u.cur.rep ≠ .none :=
    fun hu j hj => absurd (hj.symm.trans hu) (Option.some_ne_none j)
  have hraise : ∀ e, AfterExec (State.raise s (s.afterCall vector) e) := fun e =>
    ⟨h.toBase.of h.mem_wf (fun hr => absurd rfl hr) hcallbacks hhandle, hnone rfl, fun _ => rfl⟩
  have hcommit : ∀ v : View, v.mem.wf = true → InTick ((s.afterCall vector).commit v) := fun v hv =>
    ⟨h.toBase.of hv (fun hr => hbooted.trans (h.running_booted (hrun ▸ hr))) hcallbacks hhandle, hrun.trans h.running,
      hpending.trans h.no_pending⟩
  rw [interrupt_eq] at ht
  split at ht
  next v hv => cases ht; exact (hcommit v (wf_intLayer vector _ _ _ _ v hwf hv)).afterExec
  next => cases ht; exact hraise _
  next =>
    cases ht
    exact ⟨h.toBase.of (by simp [State.endRun, afterCall_keeps, hwf]) (fun hr => absurd rfl hr) hcallbacks hhandle, hnone rfl, fun _ => rfl⟩
  next => cases ht; exact hraise _
  next => cases ht

/-- Every instruction keeps what holds inside a tick, up to the end of the run or a loop left to wait. -/
theorem afterExec_exec (i : Instr) (s t : State) (h : InTick s) (ht : exec i s = .next t) : AfterExec t := by
  by_cases hstring : isStringInstr i = true
  · obtain ⟨hexec, hiter⟩ := exec_string i hstring
    rw [hexec] at ht
    cases ht
    by_cases hrep : s.cur.rep = .none
    · rw [stringOp_once _ _ _ _ hrep]
      exact (h.plain (hiter.loc s).toPlain).afterExec
    · rw [stringOp_rep _ _ _ _ hrep]
      exact afterExec_repLoop i hstring _ s h hrep
  cases hrefused : i.decodeError? with
  | some k =>
    rw [exec_refused i k s hrefused] at ht
    cases ht
    exact ⟨h.toBase.of h.mem_wf (fun hr => absurd rfl hr) rfl rfl, fun _ hi => absurd hi.symm (Option.some_ne_none _), fun _ => rfl⟩
  | none =>
    by_cases hdispatch : dispatches i = true
    · rcases exec_dispatches i s hdispatch with ⟨vector, e⟩ | ⟨t', e, hlocal⟩
      · exact afterExec_interrupt s t vector h (e.symm.trans ht)
      · cases e.symm.trans ht
        exact (h.plain hlocal.toPlain).afterExec
    · obtain ⟨t', e, hplain⟩ := exec_plain i s (by simp [isPlain, hstring, hdispatch, hrefused])
      cases e.symm.trans ht
      exact (h.plain hplain).afterExec

/-! ## Ticks and steps -/

/-- What comes after the execute step ends the tick. -/
theorem finishTick_next {r : Result} {t : State} (h : finishTick r = .next t) : ∃ u, r = .next u ∧ t = u.endInstr := by
  cases r with
  | next u => cases h; exact ⟨u, rfl, rfl⟩
  | fault _ => cases h
  | refused _ => cases h

/-- A tick is one instruction, executed inside the tick with a record of its own. -/
theorem tick_next {s t : State} (h : tick s = .next t) :
    ∃ f r u, s.captureLast.fetch = some f ∧ exec f.instr { s.captureLast.beginInstr f.bytes with cur := r } = .next u ∧ t = u.endInstr := by
  unfold tick at h
  dsimp only at h
  split at h
  next => cases h
  next f hf =>
    obtain ⟨u, hu, rfl⟩ := finishTick_next h
    obtain ⟨hprefixes, -⟩ := State.fetchFrom_prefixes _ _ _ f hf
    obtain ⟨r, hr⟩ := execAll_prefixes f.prefixes hprefixes f.instr (s.captureLast.beginInstr f.bytes)
    exact ⟨f, r, u, hf, hr.symm.trans hu, rfl⟩

/-- What a running CPU thread does after a suspension point leaves the invariant. -/
theorem inv_runOn (s t : State) (h : Inv.Base s) (hrun : s.run_state = .running) (ht : runOn s = .next t) : Inv t := by
  unfold runOn at ht
  split at ht
  next i hi =>
    obtain ⟨u, hu, rfl⟩ := finishTick_next ht
    exact (afterExec_exec i { s with pending := none } u ⟨h.of h.mem_wf h.running_booted rfl rfl, hrun, rfl⟩ hu).inv
  next hnone =>
    obtain ⟨f, r, u, -, hu, rfl⟩ := tick_next ht
    refine (afterExec_exec f.instr _ u ?_ hu).inv
    exact ⟨h.of h.mem_wf h.running_booted rfl rfl, hrun, hnone⟩

/-- Settles O52: while Stopped a step is a batch of calls; else it is a suspension point, after which the machine rests or runs on. -/
theorem invariantKeptByEveryStep : Obligations.InvariantKeptByEveryStep := by
  intro s t h ht
  have hdeliver := inv_deliver s h
  unfold step move at ht
  dsimp only at ht
  split at ht
  next => cases ht; exact hdeliver
  next =>
    split at ht
    next hrun => exact inv_runOn _ t (base_sample _ hdeliver.base) hrun ht
    next hrest => cases ht; exact inv_sample _ hdeliver hrest

end Sys2Proof.Machine
end

section
/-! PROOFS. ADD ADC SUB SBB CMP INC DEC in all their forms (40_arithmetic.md R141 to R148; 10_state.md R34). -/

namespace Sys2Proof.Machine

/-! ## ADD ADC SUB SBB CMP -/

/-- Settles O9: CMP is the flags of its subtraction alone; every other row modifies its destination by its computation. -/
theorem arithmeticOnBytes : Obligations.ArithmeticOnBytes := by
  intro op f s hwf
  obtain ⟨hcarry, hother⟩ := setArith_spec op (s.rm8 f.dst) (f.src s) s.flags.CF s.flags
  by_cases hcmp : op = .cmp
  · subst hcmp
    exact ⟨_, exec_cmp_byte f s, fun h => absurd rfl h, hcarry, hother, frame_setArith s _⟩
  · obtain ⟨hvalue, hflags, hframe⟩ :=
      modify8_spec s f.dst (fun a t => op.alu a (f.src s) t) statusFlags hwf rfl (frame_setArith s _)
    refine ⟨_, exec_arith_byte op f s hcmp, fun _ => hvalue.trans (op.out_r _ _ _), ?_, ?_, ?_⟩
    · rw [hflags]; exact hcarry
    · rw [hflags]; exact hother
    · rw [if_neg hcmp, if_neg hcmp]; exact hframe

/-- Settles O10: as on bytes. -/
theorem arithmeticOnWords : Obligations.ArithmeticOnWords := by
  intro op f s hwf
  obtain ⟨hcarry, hother⟩ := setArith_spec op (s.rm16 f.dst) (f.src s) s.flags.CF s.flags
  by_cases hcmp : op = .cmp
  · subst hcmp
    exact ⟨_, exec_cmp_word f s, fun h => absurd rfl h, hcarry, hother, frame_setArith s _⟩
  · obtain ⟨hvalue, hflags, hframe⟩ :=
      modify16_spec s f.dst (fun a t => op.alu a (f.src s) t) statusFlags hwf rfl (frame_setArith s _)
    refine ⟨_, exec_arith_word op f s hcmp, fun _ => hvalue.trans (op.out_r _ _ _), ?_, ?_, ?_⟩
    · rw [hflags]; exact hcarry
    · rw [hflags]; exact hother
    · rw [if_neg hcmp, if_neg hcmp]; exact hframe

/-! ## Signed overflow -/

/-- The flags of the five operations on bytes, whatever the form of memory. -/
theorem exec_arith_byte_flags (op : ArithOp) (f : ByteForm) (s : State) :
    ∃ t, exec (op.byteInstr f) s = .next t ∧ t.flags = s.flags.setArith (op.out (s.rm8 f.dst) (f.src s) s.flags.CF) := by
  by_cases hcmp : op = .cmp
  · subst hcmp; exact ⟨_, exec_cmp_byte f s, rfl⟩
  · exact ⟨_, exec_arith_byte op f s hcmp, flags_put8 _ _ _⟩

/-- The flags of the five operations on words, whatever the form of memory. -/
theorem exec_arith_word_flags (op : ArithOp) (f : WordForm) (s : State) :
    ∃ t, exec (op.wordInstr f) s = .next t ∧ t.flags = s.flags.setArith (op.out (s.rm16 f.dst) (f.src s) s.flags.CF) := by
  by_cases hcmp : op = .cmp
  · subst hcmp; exact ⟨_, exec_cmp_word f s, rfl⟩
  · exact ⟨_, exec_arith_word op f s hcmp, flags_put16 _ _ _⟩

/-- A number less than one modulus out of range wraps round once. -/
theorem toNat_ofInt_wraps {m : Nat} (z : Int) (hlow : -(2 * 2 ^ m) ≤ z) (hhigh : z < 2 * (2 * 2 ^ m)) :
    ((BitVec.ofInt (m + 1) z).toNat : Int) = z ∨ ((BitVec.ofInt (m + 1) z).toNat : Int) = z - 2 * 2 ^ m ∨
      ((BitVec.ofInt (m + 1) z).toNat : Int) = z + 2 * 2 ^ m := by
  have hpos : (0 : Int) < 2 * 2 ^ m := by positivity
  have hmod : ((BitVec.ofInt (m + 1) z).toNat : Int) = z % (2 * 2 ^ m) := by
    rw [BitVec.toNat_ofInt, Nat.pow_succ', Int.toNat_of_nonneg (Int.emod_nonneg _ (by positivity))]
    push_cast; rfl
  rw [hmod]
  generalize (2 : Int) * 2 ^ m = N at hlow hhigh hpos
  rcases lt_or_ge z 0 with h | h
  · rw [← Int.add_emod_right, Int.emod_eq_of_lt (by omega) (by omega)]; omega
  · rcases lt_or_ge z N with h' | h'
    · rw [Int.emod_eq_of_lt h h']; omega
    · rw [← Int.sub_emod_right, Int.emod_eq_of_lt (by omega) (by omega)]; omega

/-- The sign bit and the signed value, over the number (10_state.md R34). -/
theorem msb_toInt_cases {m : Nat} (x : BitVec (m + 1)) :
    (x.msb = false ∧ x.toInt = x.toNat ∧ (x.toNat : Int) < 2 ^ m) ∨
      (x.msb = true ∧ x.toInt = x.toNat - 2 * 2 ^ m ∧ (2 : Int) ^ m ≤ x.toNat) := by
  have hcast : ((2 ^ m : Nat) : Int) = (2 : Int) ^ m := by push_cast; rfl
  rw [BitVec.toInt_eq_msb_cond, BitVec.msb_eq_decide, Nat.add_sub_cancel, Nat.pow_succ', ← hcast]
  by_cases h : 2 ^ m ≤ x.toNat
  · exact .inr ⟨by simp [h], by simp [h], by exact_mod_cast h⟩
  · left; simp [h]; omega

/-- The sign rule of 40_arithmetic.md R141 for OF is signed overflow: the result modulo 2^N has the wrong sign exactly when the exact
signed result is out of range. -/
theorem signRule_iff_overflow (op : ArithOp) {m : Nat} (a b : BitVec (m + 1)) (c : Bool) :
    ((if op.adds then a.msb = b.msb else a.msb ≠ b.msb) ∧ (op.result a b c).msb ≠ a.msb) ↔
      op.exact a.toInt b.toInt c < -2 ^ m ∨ (2 : Int) ^ m ≤ op.exact a.toInt b.toInt c := by
  have hbound : ∀ x : BitVec (m + 1), (x.toNat : Int) < 2 * 2 ^ m := fun x => by
    have := x.isLt
    rw [Nat.pow_succ'] at this
    exact_mod_cast this
  have ha := hbound a
  have hb := hbound b
  have hc := Bool.toNat_lt c
  have hwrap : -(2 * 2 ^ m) ≤ op.exact a.toNat b.toNat c ∧ op.exact a.toNat b.toNat c < 2 * (2 * 2 ^ m) := by
    cases op <;> simp only [ArithOp.exact] <;> omega
  have hr := toNat_ofInt_wraps _ hwrap.1 hwrap.2
  have hrlt := hbound (op.result a b c)
  have hrs := msb_toInt_cases (op.result a b c)
  unfold ArithOp.result at *
  generalize BitVec.ofInt (m + 1) (op.exact a.toNat b.toNat c) = r at *
  rcases msb_toInt_cases a with ⟨hma, hia, hna⟩ | ⟨hma, hia, hna⟩ <;>
    rcases msb_toInt_cases b with ⟨hmb, hib, hnb⟩ | ⟨hmb, hib, hnb⟩ <;>
    rcases hrs with ⟨hmr, -, hnr⟩ | ⟨hmr, -, hnr⟩ <;>
    rw [hma, hmb, hmr, hia, hib] <;>
    cases op <;> simp only [ArithOp.exact, ArithOp.adds] at * <;> simp <;> omega

/-- Settles O11: the flags are those of the computation, and its sign rule is signed overflow. -/
theorem overflowFlagIsSignedOverflow : Obligations.OverflowFlagIsSignedOverflow := by
  refine fun op s => ⟨fun f => ?_, fun f => ?_⟩
  · obtain ⟨t, ht, hflags⟩ := exec_arith_byte_flags op f s
    obtain ⟨-, hof, -, -⟩ := setArith_spec op (s.rm8 f.dst) (f.src s) s.flags.CF s.flags
    refine ⟨t, ht, ?_⟩
    rw [hflags]
    exact hof.trans (signRule_iff_overflow (m := 7) op _ _ _)
  · obtain ⟨t, ht, hflags⟩ := exec_arith_word_flags op f s
    obtain ⟨-, hof, -, -⟩ := setArith_spec op (s.rm16 f.dst) (f.src s) s.flags.CF s.flags
    refine ⟨t, ht, ?_⟩
    rw [hflags]
    exact hof.trans (signRule_iff_overflow (m := 15) op _ _ _)

/-! ## INC and DEC -/

/-- INC and DEC as ADD and SUB of 1, by operation (40_arithmetic.md R147, R148). -/
def ArithOp.stepAlu (op : ArithOp) {n : Nat} (a : BitVec n) (s : State) : BitVec n × State :=
  ((op.out a 1 false).r, s.setFlags (s.flags.setIncDec (op.out a 1 false)))

/-- INC is ADD of 1 with CF kept. -/
theorem incAlu_eq {n : Nat} : @incAlu n = ArithOp.add.stepAlu := rfl

/-- DEC is SUB of 1 with CF kept. -/
theorem decAlu_eq {n : Nat} : @decAlu n = ArithOp.sub.stepAlu := rfl

/-- One more or one less in a byte destination, with the flags of the operation but for CF. -/
theorem modify8_stepAlu (op : ArithOp) (s : State) (rm : Rm8) (hwf : s.mem.wf = true) :
    (s.modify8 rm op.stepAlu).get8 (s.loc8 rm) = op.result (s.rm8 rm) 1 false ∧
      op.OtherFlagsOf (s.rm8 rm) 1 false (s.modify8 rm op.stepAlu).flags ∧
      Frame s (s.modify8 rm op.stepAlu) rm.parts [.pf, .af, .zf, .sf, .of] (s.stored8 rm) := by
  obtain ⟨hvalue, hflags, hframe⟩ := modify8_spec s rm op.stepAlu [.pf, .af, .zf, .sf, .of] hwf rfl (frame_setIncDec s _)
  exact ⟨hvalue.trans (op.out_r _ _ _), hflags ▸ setIncDec_spec op _ _ _ s.flags, hframe⟩

/-- One more or one less in a word destination, with the flags of the operation but for CF. -/
theorem modify16_stepAlu (op : ArithOp) (s : State) (rm : Rm16) (hwf : s.mem.wf = true) :
    (s.modify16 rm op.stepAlu).get16 (s.loc16 rm) = op.result (s.rm16 rm) 1 false ∧
      op.OtherFlagsOf (s.rm16 rm) 1 false (s.modify16 rm op.stepAlu).flags ∧
      Frame s (s.modify16 rm op.stepAlu) rm.parts [.pf, .af, .zf, .sf, .of] (s.stored16 rm) := by
  obtain ⟨hvalue, hflags, hframe⟩ := modify16_spec s rm op.stepAlu [.pf, .af, .zf, .sf, .of] hwf rfl (frame_setIncDec s _)
  exact ⟨hvalue.trans (op.out_r _ _ _), hflags ▸ setIncDec_spec op _ _ _ s.flags, hframe⟩

/-- Settles O12: each row modifies its destination by ADD or SUB of 1 with CF kept. -/
theorem incrementAndDecrement : Obligations.IncrementAndDecrement := by
  refine fun s hwf => ⟨?_, ?_⟩
  · rintro op i rm (⟨rfl, rfl⟩ | ⟨rfl, rfl⟩)
    · exact ⟨_, rfl, modify8_stepAlu .add s rm hwf⟩
    · exact ⟨_, rfl, modify8_stepAlu .sub s rm hwf⟩
  · rintro op i rm (⟨rfl, rfl⟩ | ⟨rfl, rfl⟩ | ⟨r, rfl, ⟨rfl, rfl⟩ | ⟨rfl, rfl⟩⟩)
    · exact ⟨_, rfl, modify16_stepAlu .add s rm hwf⟩
    · exact ⟨_, rfl, modify16_stepAlu .sub s rm hwf⟩
    · exact ⟨_, rfl, modify16_stepAlu .add s (.reg r) hwf⟩
    · exact ⟨_, rfl, modify16_stepAlu .sub s (.reg r) hwf⟩

end Sys2Proof.Machine
end

section
/-! PROOFS. Effective addresses and segments of memory operands (30_encoding.md R106, R107). -/

namespace Sys2Proof.Machine

/-- The registers of a base expression, summed as numbers. -/
theorem baseValue_eq_ofNat (s : State) (b : Base) : s.baseValue b = BitVec.ofNat 16 (s.sumOf b.registers) := by
  cases b <;>
    simp [State.baseValue, State.sumOf, Base.registers, State.reg16, Regs.get16, BitVec.ofNat_add]

/-- A displacement, added as the signed number it is. -/
theorem disp_value_eq_ofInt (d : Disp) : Disp.value d = BitVec.ofInt 16 d.signed := by
  cases d with
  | none => rfl
  | d8 d => rfl
  | d16 d => exact (BitVec.ofInt_toInt).symm

/-- The effective address as a sum of numbers, modulo 2^16 (30_encoding.md R106). -/
theorem ea_based_eq_ofInt (s : State) (b : Base) (d : Disp) :
    s.ea (.based b d) = BitVec.ofInt 16 (s.sumOf b.registers + d.signed) := by
  rw [BitVec.ofInt_add, BitVec.ofInt_natCast, ← baseValue_eq_ofNat, ← disp_value_eq_ofInt]
  rfl

/-- The default segment of a base expression (30_encoding.md R107). -/
theorem defaultSeg_based (b : Base) (d : Disp) : defaultSeg (.based b d) = if Reg16.bp ∈ b.registers then .ss else .ds := by
  cases b <;> rfl

/-- Settles O8: the address is the sum modulo 2^16; the segment is the prefix, or the default. -/
theorem operandAddressAsStated : Obligations.OperandAddressAsStated := by
  refine fun s b d a => ⟨?_, rfl, fun r hr => ?_, fun hnone => ⟨?_, ?_⟩, rfl, rfl⟩
  · rw [ea_based_eq_ofInt, BitVec.toNat_ofInt, Int.toNat_of_nonneg (Int.emod_nonneg _ (by decide))]
    rfl
  · simp only [State.memSeg, State.segOr, hr, Option.getD_some, and_self]
  · rw [State.memSeg, State.segOr, hnone, Option.getD_none, defaultSeg_based]
    split <;> rfl
  · rw [State.memSeg, State.segOr, hnone, Option.getD_none]
    rfl

end Sys2Proof.Machine
end

section
/-! PROOFS. MUL, DIV and the divide error (40_arithmetic.md R149, R150; 60_exceptions.md R342). -/

namespace Sys2Proof.Machine

/-! ## MUL -/

/-- The high byte of a word is zero exactly when the word fits in a byte. -/
theorem hiByte_ne_zero_iff (w : Word) : hiByte w ≠ 0 ↔ 2 ^ 8 ≤ w.toNat := by
  rw [ne_eq, ← BitVec.toNat_inj, toNat_hiByte, show (0 : Byte).toNat = 0 from rfl]
  omega

/-- Writing AX and flags writes the parts of AX and those flags. -/
theorem frame_mul8 (s : State) (b : Byte) : Frame s (s.mul8 b) (Reg16.parts .ax) statusFlags [] :=
  (((frame_setReg16 s .ax _).trans (frame_setFlags _ _ [.cf, .of] fun f hf => by
    cases f <;> first | rfl | exact absurd (by simp) hf)).trans (frame_undefAfterMul _)).mono
    (by simp) (by simp [statusFlags]) (by simp)

/-- Writing DX, AX and flags writes their parts and those flags. -/
theorem frame_mul16 (s : State) (b : Word) : Frame s (s.mul16 b) (Reg16.parts .ax ++ Reg16.parts .dx) statusFlags [] :=
  ((((frame_setReg16 s .ax _).trans (frame_setReg16 _ .dx _)).trans (frame_setFlags _ _ [.cf, .of] fun f hf => by
    cases f <;> first | rfl | exact absurd (by simp) hf)).trans (frame_undefAfterMul _)).mono
    (by simp) (by simp [statusFlags]) (by simp)

/-- The product of two bytes fits in a word. -/
theorem toNat_mul_byte (a b : Byte) : (BitVec.ofNat 16 (a.toNat * b.toNat)).toNat = a.toNat * b.toNat := by
  have := Nat.mul_lt_mul'' a.isLt b.isLt
  rw [BitVec.toNat_ofNat, Nat.mod_eq_of_lt (by omega)]

/-- The product of two words fits in 32 bits. -/
theorem toNat_mul_word (a b : Word) : (BitVec.ofNat 32 (a.toNat * b.toNat)).toNat = a.toNat * b.toNat := by
  have := Nat.mul_lt_mul'' a.isLt b.isLt
  rw [BitVec.toNat_ofNat, Nat.mod_eq_of_lt (by omega)]

/-- The upper word of 32 bits. -/
theorem toNat_upperWord (p : BitVec 32) : (p.extractLsb' 16 16).toNat = p.toNat / 2 ^ 16 := by
  have := p.isLt
  rw [BitVec.extractLsb'_toNat, Nat.shiftRight_eq_div_pow]
  omega

/-- The lower word of 32 bits. -/
theorem toNat_lowerWord (p : BitVec 32) : (p.extractLsb' 0 16).toNat = p.toNat % 2 ^ 16 := by
  rw [BitVec.extractLsb'_toNat, Nat.shiftRight_zero]

/-- Settles O13: the product is exact in the wider word, and its upper half is not zero exactly when it does not fit in the lower. -/
theorem unsignedMultiply : Obligations.UnsignedMultiply := by
  refine fun s => ⟨fun rm => ?_, fun rm => ?_⟩
  · have hproduct := toNat_mul_byte (s.reg8 .al) (s.rm8 rm)
    refine ⟨_, rfl, hproduct, ?_, rfl, frame_mul8 s (s.rm8 rm)⟩
    rw [← hproduct]
    exact decide_eq_true_iff.trans (hiByte_ne_zero_iff _)
  · have hproduct := toNat_mul_word s.regs.AX (s.rm16 rm)
    refine ⟨_, rfl, ?_, ?_, rfl, frame_mul16 s (s.rm16 rm)⟩
    · refine Eq.trans ?_ hproduct
      refine (congrArg₂ (fun h l => h * 2 ^ 16 + l) (toNat_upperWord _) (toNat_lowerWord _)).trans ?_
      exact Nat.div_add_mod' _ _
    · rw [← hproduct]
      refine decide_eq_true_iff.trans ?_
      rw [ne_eq, ← BitVec.toNat_inj, toNat_upperWord, show (0 : Word).toNat = 0 from rfl]
      omega

/-! ## DIV -/

/-- A byte division that fits (40_arithmetic.md R150). -/
theorem div8_fits (s : State) (d : Byte) (h0 : d.toNat ≠ 0) (hq : s.regs.AX.toNat / d.toNat ≤ 0xFF) :
    s.div8 d = .next ((s.setReg8 .al (BitVec.ofNat 8 (s.regs.AX.toNat / d.toNat))).setReg8 .ah
      (BitVec.ofNat 8 (s.regs.AX.toNat % d.toNat))).undefAfterDiv := if_neg (by omega)

/-- A word division that fits (40_arithmetic.md R150). -/
theorem div16_fits (s : State) (d : Word) (h0 : d.toNat ≠ 0) (hq : (s.regs.DX.toNat * 2 ^ 16 + s.regs.AX.toNat) / d.toNat ≤ 0xFFFF) :
    s.div16 d = .next ((s.setReg16 .ax (BitVec.ofNat 16 ((s.regs.DX.toNat * 2 ^ 16 + s.regs.AX.toNat) / d.toNat))).setReg16 .dx
      (BitVec.ofNat 16 ((s.regs.DX.toNat * 2 ^ 16 + s.regs.AX.toNat) % d.toNat))).undefAfterDiv := if_neg (by omega)

/-- AL and AH are written one after the other. -/
theorem reg8_al_ah_written (s : State) (q r : Byte) :
    (((s.setReg8 .al q).setReg8 .ah r).reg8 .al) = q ∧ ((s.setReg8 .al q).setReg8 .ah r).reg8 .ah = r := by
  simp only [State.reg8, State.regs_setReg8]
  exact ⟨(Regs.get8_set8_ne _ _ _ _ (by decide)).trans (Regs.get8_set8_same _ _ _), Regs.get8_set8_same _ _ _⟩

/-- Settles O14: quotient and remainder fit in their registers, so that they satisfy the division equation. -/
theorem unsignedDivide : Obligations.UnsignedDivide := by
  refine fun s => ⟨fun rm h0 hq => ?_, fun rm h0 hq => ?_⟩
  · have hlt := Nat.mod_lt s.regs.AX.toNat (Nat.pos_of_ne_zero h0)
    have hd := (s.rm8 rm).isLt
    obtain ⟨hal, hah⟩ := reg8_al_ah_written s (BitVec.ofNat 8 (s.regs.AX.toNat / (s.rm8 rm).toNat))
      (BitVec.ofNat 8 (s.regs.AX.toNat % (s.rm8 rm).toNat))
    have hquot := (congrArg BitVec.toNat hal).trans (Nat.mod_eq_of_lt (by omega))
    have hrem := (congrArg BitVec.toNat hah).trans (Nat.mod_eq_of_lt (by omega))
    refine ⟨_, div8_fits s (s.rm8 rm) h0 hq, ?_, lt_of_eq_of_lt hrem hlt, ?_⟩
    · exact (Nat.div_add_mod' _ _).symm.trans (congrArg₂ (fun q r => q * (s.rm8 rm).toNat + r) hquot.symm hrem.symm)
    · exact ((frame_setReg8 s .al _).trans (frame_setReg8 _ .ah _)).trans (frame_undefAfterDiv _)
  · have hlt := Nat.mod_lt (s.regs.DX.toNat * 2 ^ 16 + s.regs.AX.toNat) (Nat.pos_of_ne_zero h0)
    have hd := (s.rm16 rm).isLt
    have hquot : (BitVec.ofNat 16 ((s.regs.DX.toNat * 2 ^ 16 + s.regs.AX.toNat) / (s.rm16 rm).toNat)).toNat = _ :=
      Nat.mod_eq_of_lt (by omega)
    have hrem : (BitVec.ofNat 16 ((s.regs.DX.toNat * 2 ^ 16 + s.regs.AX.toNat) % (s.rm16 rm).toNat)).toNat = _ :=
      Nat.mod_eq_of_lt (by omega)
    refine ⟨_, div16_fits s (s.rm16 rm) h0 hq, ?_, lt_of_eq_of_lt hrem hlt, ?_⟩
    · exact (Nat.div_add_mod' _ _).symm.trans (congrArg₂ (fun q r => q * (s.rm16 rm).toNat + r) hquot.symm hrem.symm)
    · exact ((frame_setReg16 s .ax _).trans (frame_setReg16 _ .dx _)).trans (frame_undefAfterDiv _)

/-- Settles O15: before anything is written, the divide error is the dispatch that `INT 0` is (60_exceptions.md R342). -/
theorem divideErrorDispatchesZero : Obligations.DivideErrorDispatchesZero := by
  refine fun s => ⟨fun rm h => ?_, fun rm h => ?_⟩
  · exact (if_pos h : s.div8 (s.rm8 rm) = s.interrupt 0)
  · exact (if_pos h : s.div16 (s.rm16 rm) = s.interrupt 0)

end Sys2Proof.Machine
end

section
/-! PROOFS. AND OR XOR TEST in all their forms (41_logical.md R170 to R174). -/

namespace Sys2Proof.Machine

/-- The result of a Boolean operation, bit by bit (41_logical.md R171 to R173). -/
theorem LogicOp.alu_getLsbD (op : LogicOp) {n : Nat} (a b : BitVec n) (s : State) (k : Nat) :
    (op.alu a b s).1.getLsbD k = op.onBits (a.getLsbD k) (b.getLsbD k) := by
  cases op with
  | and => exact BitVec.getLsbD_and
  | or => exact BitVec.getLsbD_or
  | xor => exact BitVec.getLsbD_xor

/-- The state a Boolean operation leaves before its result is stored: the flags of the result (41_logical.md R170). -/
theorem LogicOp.alu_snd (op : LogicOp) {n : Nat} (a b : BitVec n) (s : State) :
    (op.alu a b s).2 = s.logicFlags (op.alu a b s).1 := by cases op <;> rfl

/-- Settles O16: each row modifies its destination by its operation, whose flags are those of the result. -/
theorem logicOnBytes : Obligations.LogicOnBytes := by
  intro op f s hwf
  have hflagsOf := op.alu_snd (s.rm8 f.dst) (f.src s) s
  obtain ⟨hvalue, hflags, hframe⟩ := modify8_spec s f.dst (fun a t => op.alu a (f.src s) t) statusFlags hwf
    (by rw [hflagsOf]; rfl) (by rw [hflagsOf]; exact frame_logicFlags s _)
  refine ⟨_, exec_logic_byte op f s, fun k _ => ?_, ?_, hframe⟩
  · rw [hvalue]; exact op.alu_getLsbD _ _ s k
  · rw [hvalue, hflags, hflagsOf]; exact logicFlags_spec s _

/-- Settles O17: as on bytes. -/
theorem logicOnWords : Obligations.LogicOnWords := by
  intro op f s hwf
  have hflagsOf := op.alu_snd (s.rm16 f.dst) (f.src s) s
  obtain ⟨hvalue, hflags, hframe⟩ := modify16_spec s f.dst (fun a t => op.alu a (f.src s) t) statusFlags hwf
    (by rw [hflagsOf]; rfl) (by rw [hflagsOf]; exact frame_logicFlags s _)
  refine ⟨_, exec_logic_word op f s, fun k _ => ?_, ?_, hframe⟩
  · rw [hvalue]; exact op.alu_getLsbD _ _ s k
  · rw [hvalue, hflags, hflagsOf]; exact logicFlags_spec s _

/-- An instruction that sets the flags of an AND writes those flags alone (41_logical.md R174). -/
theorem exec_testFlags_spec {n : Nat} {i : Instr} {s : State} {a b : BitVec n} (hexec : exec i s = .next (s.logicFlags (a &&& b))) :
    ∃ t, exec i s = .next t ∧ LogicFlagsOf (BitVec.ofNat n (a.toNat &&& b.toNat)) t.flags ∧ Frame s t [] statusFlags [] := by
  refine ⟨_, hexec, ?_, frame_logicFlags s _⟩
  rw [← BitVec.toNat_and, BitVec.ofNat_toNat, BitVec.setWidth_eq]
  exact logicFlags_spec s _

/-- Settles O18: every row sets the flags of an AND and stores nothing. -/
theorem testWritesFlagsOnly : Obligations.TestWritesFlagsOnly := by
  refine fun s => ⟨?_, ?_⟩
  · rintro rm i b (⟨r, rfl, rfl⟩ | rfl | ⟨rfl, rfl⟩)
    · exact exec_testFlags_spec (a := s.rm8 rm) (b := s.reg8 r) rfl
    · exact exec_testFlags_spec (a := s.rm8 rm) rfl
    · exact exec_testFlags_spec (a := s.reg8 .al) rfl
  · rintro rm i w (⟨r, rfl, rfl⟩ | rfl | ⟨rfl, rfl⟩)
    · exact exec_testFlags_spec (a := s.rm16 rm) (b := s.reg16 r) rfl
    · exact exec_testFlags_spec (a := s.rm16 rm) rfl
    · exact exec_testFlags_spec (a := s.reg16 .ax) rfl

end Sys2Proof.Machine
end

section
/-! PROOFS. The shifts and rotates at every count (42_shift_rotate.md R190 to R197). -/

namespace Sys2Proof.Machine

/-! ## One bit of each operation, over numbers -/

/-- One bit of an operation of the model. -/
def ShiftOp.bit (op : ShiftOp) {n : Nat} (x : BitVec n × Bool) : BitVec n × Bool :=
  match op with
  | .shl => shlBit x
  | .shr => shrBit x
  | .sar => sarBit x
  | .rol => rolBit x
  | .ror => rorBit x
  | .rcl => rclBit x
  | .rcr => rcrBit x

/-- The top bit as the statements compute it. -/
theorem toNat_msb {m : Nat} (v : BitVec (m + 1)) : v.toNat / 2 ^ m % 2 = v.msb.toNat := by
  rw [BitVec.msb_eq_getLsbD_last, Nat.add_sub_cancel, BitVec.getLsbD, Nat.toNat_testBit]

/-- The bottom bit as the statements compute it. -/
theorem toNat_bottomBit {n : Nat} (v : BitVec n) : v.toNat % 2 = (v.getLsbD 0).toNat := by
  rw [BitVec.getLsbD, Nat.toNat_testBit, Nat.pow_zero, Nat.div_one]

/-- A bit that leaves is CF. -/
theorem decide_toNat_eq_one (b : Bool) : decide (b.toNat = 1) = b := by cases b <;> rfl

/-- A bit entering below, as a number. -/
theorem toNat_shiftLeft_or_lowBit {m : Nat} (v : BitVec (m + 1)) (b : Bool) :
    (v <<< 1 ||| lowBit b).toNat = 2 * v.toNat % 2 ^ (m + 1) + b.toNat := by
  have heven : 2 * v.toNat % 2 ^ (m + 1) = 2 ^ 1 * (v.toNat % 2 ^ m) := by rw [Nat.pow_succ', Nat.mul_mod_mul_left, Nat.pow_one]
  have hlow : (lowBit b : BitVec (m + 1)).toNat = b.toNat := by cases b <;> simp [lowBit]
  rw [BitVec.toNat_or, hlow, BitVec.toNat_shiftLeft, Nat.shiftLeft_eq, Nat.pow_one, Nat.mul_comm, heven,
    ← Nat.two_pow_add_eq_or_of_lt (Bool.toNat_lt b)]

/-- A bit entering above, as a number. -/
theorem toNat_shiftRight_or_topBit {m : Nat} (v : BitVec (m + 1)) (b : Bool) :
    (v >>> 1 ||| topBit b).toNat = v.toNat / 2 + b.toNat * 2 ^ m := by
  have htop : (topBit b : BitVec (m + 1)).toNat = 2 ^ m * b.toNat := by
    cases b with
    | false => simp [topBit]
    | true => exact (BitVec.toNat_twoPow_of_lt (Nat.lt_succ_self m)).trans (Nat.mul_one _).symm
  have hhalf : v.toNat / 2 < 2 ^ m := by
    have := v.isLt
    rw [Nat.pow_succ'] at this
    omega
  rw [BitVec.toNat_or, htop, BitVec.toNat_ushiftRight, Nat.shiftRight_eq_div_pow, Nat.pow_one, Nat.or_comm,
    ← Nat.two_pow_add_eq_or_of_lt hhalf, Nat.add_comm, Nat.mul_comm]

/-- A shift to the right that keeps the sign, as a number. -/
theorem toNat_sshiftRight_one {m : Nat} (v : BitVec (m + 1)) :
    (v.sshiftRight 1).toNat = v.toNat / 2 + v.msb.toNat * 2 ^ m := by
  have hlt := v.isLt
  rw [Nat.pow_succ'] at hlt
  cases h : v.msb with
  | false => rw [BitVec.sshiftRight_eq_of_msb_false h, BitVec.toNat_ushiftRight, Nat.shiftRight_eq_div_pow]; simp
  | true =>
    rw [BitVec.sshiftRight_eq_of_msb_true h, BitVec.toNat_not, BitVec.toNat_ushiftRight, BitVec.toNat_not,
      Nat.shiftRight_eq_div_pow, Nat.pow_succ', Bool.toNat_true]
    omega

/-- One bit of the model is one round of the rule (42_shift_rotate.md R191 to R197). -/
theorem ShiftOp.round_eq_bit (op : ShiftOp) {m : Nat} (x : BitVec (m + 1) × Bool) :
    op.round (m + 1) (x.1.toNat, x.2) = ((op.bit x).1.toNat, (op.bit x).2) := by
  cases op <;>
    simp only [ShiftOp.round, ShiftOp.bit, shlBit, shrBit, sarBit, rolBit, rorBit, rclBit, rcrBit, Nat.add_sub_cancel, toNat_msb,
      toNat_bottomBit, decide_toNat_eq_one, toNat_shiftLeft_or_lowBit, toNat_shiftRight_or_topBit, toNat_sshiftRight_one]
  case shl => rw [BitVec.toNat_shiftLeft, Nat.shiftLeft_eq, Nat.pow_one, Nat.mul_comm]
  case shr => rw [BitVec.toNat_ushiftRight, Nat.shiftRight_eq_div_pow, Nat.pow_one]

/-- As many bits are as many rounds. -/
theorem ShiftOp.rounds_eq_iterate (op : ShiftOp) {m : Nat} (count : Nat) (x : BitVec (m + 1) × Bool) :
    op.rounds (m + 1) count (x.1.toNat, x.2) = ((iterate op.bit count x).1.toNat, (iterate op.bit count x).2) := by
  induction count generalizing x with
  | zero => rfl
  | succ count ih => rw [ShiftOp.rounds, op.round_eq_bit, ih]; rfl

/-! ## Flags -/

/-- What the shifts do to the flags (42_shift_rotate.md R190). -/
theorem afterShift_spec {n : Nat} (s : State) (count : Nat) (r : BitVec n) (cf of : Bool) :
    (s.afterShift count r cf of).flags.CF = cf ∧ SZPOf r (s.afterShift count r cf of).flags ∧
      (count = 1 → (s.afterShift count r cf of).flags.OF = of) ∧ (s.afterShift count r cf of).mem = s.mem ∧
      Frame s (s.afterShift count r cf of) [] statusFlags [] := by
  have hszp := setSZP_spec ({ s.flags with CF := cf } : Flags) r
  have hset : Frame s (s.setFlags (({ s.flags with CF := cf } : Flags).setSZP r)) [] statusFlags [] :=
    frame_setFlags s _ _ fun f hf => by cases f <;> first | rfl | exact absurd (by simp [statusFlags]) hf
  unfold State.afterShift State.shiftOF
  split
  next h =>
    refine ⟨rfl, hszp.congr rfl rfl rfl, fun _ => rfl, rfl, ((hset.trans (frame_setFlags _ _ [.of] fun f hf => ?_)).trans
      (frame_undefAF _)).mono (by simp) (by simp [statusFlags]) (by simp)⟩
    cases f <;> first | rfl | exact absurd (by simp) hf
  next h =>
    exact ⟨rfl, hszp.congr rfl rfl rfl, fun h' => absurd h' h, rfl, ((hset.trans (frame_undefOF _)).trans
      (frame_undefAF _)).mono (by simp) (by simp [statusFlags]) (by simp)⟩

/-- What the rotates do to the flags (42_shift_rotate.md R190). -/
theorem afterRotate_spec (s : State) (count : Nat) (cf of : Bool) :
    (s.afterRotate count cf of).flags.CF = cf ∧ (count = 1 → (s.afterRotate count cf of).flags.OF = of) ∧
      (s.afterRotate count cf of).mem = s.mem ∧ Frame s (s.afterRotate count cf of) [] [.cf, .of] [] := by
  have hset : Frame s (s.setFlags { s.flags with CF := cf }) [] [.cf] [] :=
    frame_setFlags s _ _ fun f hf => by cases f <;> first | rfl | exact absurd (by simp) hf
  unfold State.afterRotate State.shiftOF
  split
  next h =>
    refine ⟨rfl, fun _ => rfl, rfl, hset.trans (frame_setFlags _ _ [.of] fun f hf => ?_)⟩
    cases f <;> first | rfl | exact absurd (by simp) hf
  next h => exact ⟨rfl, fun h' => absurd h' h, rfl, hset.trans (frame_undefOF _)⟩

/-- OF of the model, from the original value, the result and CF. -/
def ShiftOp.ofBit (op : ShiftOp) {n : Nat} (v r : BitVec n) (cf : Bool) : Bool :=
  match op with
  | .shl => cf ^^ r.msb
  | .rol | .rcl => r.msb ^^ cf
  | .shr => v.msb
  | .sar => false
  | .ror | .rcr => r.msb ^^ nextToTop r

/-- OF of the model is OF of the rules (42_shift_rotate.md R191 to R197). -/
theorem ShiftOp.ofBit_eq_overflow (op : ShiftOp) {n : Nat} (v r : BitVec n) (cf : Bool) :
    op.ofBit v r cf = op.overflow n v.toNat r.toNat cf := by
  cases op <;> simp only [ShiftOp.ofBit, ShiftOp.overflow, BitVec.msb_eq_getLsbD_last, nextToTop, BitVec.getLsbD]
  case rol | rcl => exact Bool.xor_comm _ _

/-- An operation of the model is its bits one after another, with the flags of its kind. -/
theorem ShiftOp.alu_eq (op : ShiftOp) {n : Nat} (count : Nat) (v : BitVec n) (s : State) :
    op.alu count v s =
      ((iterate op.bit count (v, s.flags.CF)).1,
        if op.setsSZP then
          s.afterShift count (iterate op.bit count (v, s.flags.CF)).1 (iterate op.bit count (v, s.flags.CF)).2
            (op.ofBit v (iterate op.bit count (v, s.flags.CF)).1 (iterate op.bit count (v, s.flags.CF)).2)
        else
          s.afterRotate count (iterate op.bit count (v, s.flags.CF)).2
            (op.ofBit v (iterate op.bit count (v, s.flags.CF)).1 (iterate op.bit count (v, s.flags.CF)).2)) := by
  cases op <;> rfl

/-- Value, flags and frame of an operation at a count that is not 0. -/
theorem ShiftOp.alu_spec (op : ShiftOp) {m : Nat} (count : Nat) (v : BitVec (m + 1)) (s : State) :
    op.Outcome count v s.flags.CF (op.alu count v s).1 (op.alu count v s).2.flags ∧
      (op.alu count v s).2.mem = s.mem ∧ Frame s (op.alu count v s).2 [] op.flagsWritten [] := by
  rw [op.alu_eq]
  unfold ShiftOp.Outcome
  rw [op.rounds_eq_iterate count (v, s.flags.CF)]
  generalize iterate op.bit count (v, s.flags.CF) = x
  cases hkind : op.setsSZP with
  | true =>
    obtain ⟨hcf, hszp, hof, hmem, hframe⟩ := afterShift_spec s count x.1 x.2 (op.ofBit v x.1 x.2)
    have hwritten : op.flagsWritten = statusFlags := by cases op <;> first | rfl | cases hkind
    rw [if_pos rfl, hwritten]
    exact ⟨⟨rfl, hcf, fun _ => hszp, fun h => by rw [hof h, hcf, op.ofBit_eq_overflow]⟩, hmem, hframe⟩
  | false =>
    obtain ⟨hcf, hof, hmem, hframe⟩ := afterRotate_spec s count x.2 (op.ofBit v x.1 x.2)
    have hwritten : op.flagsWritten = [.cf, .of] := by cases op <;> first | rfl | cases hkind
    rw [if_neg Bool.false_ne_true, hwritten]
    exact ⟨⟨rfl, hcf, fun h => absurd h Bool.false_ne_true, fun h => by rw [hof h, hcf, op.ofBit_eq_overflow]⟩, hmem, hframe⟩

/-! ## The instructions -/

/-- The mask of the count is the remainder modulo 32 (42_shift_rotate.md R190). -/
theorem countCL_eq (s : State) : s.countCL = (s.reg8 .cl).toNat % 32 := by
  rw [State.countCL, BitVec.toNat_and]
  exact Nat.and_two_pow_sub_one_eq_mod _ 5

/-- Settles O20: the count decides between nothing and a modification of the destination by the operation. -/
theorem shiftsOnBytes : Obligations.ShiftsOnBytes := by
  intro op byCl rm s count hwf hcount
  rw [exec_shift_byte, countCL_eq, ← hcount]
  refine ⟨fun h0 => by rw [State.shift8, if_pos h0], fun h0 => ?_⟩
  obtain ⟨houtcome, hmem, hframe⟩ := op.alu_spec (m := 7) count (s.rm8 rm) s
  obtain ⟨hvalue, hflags, hwritten⟩ := modify8_spec s rm (fun v t => op.alu count v t) op.flagsWritten hwf
    hmem hframe
  refine ⟨_, rfl, ?_⟩
  rw [State.shift8, if_neg h0, hvalue, hflags]
  exact ⟨houtcome, hwritten⟩

/-- Settles O21: as on bytes. -/
theorem shiftsOnWords : Obligations.ShiftsOnWords := by
  intro op byCl rm s count hwf hcount
  rw [exec_shift_word, countCL_eq, ← hcount]
  refine ⟨fun h0 => by rw [State.shift16, if_pos h0], fun h0 => ?_⟩
  obtain ⟨houtcome, hmem, hframe⟩ := op.alu_spec (m := 15) count (s.rm16 rm) s
  obtain ⟨hvalue, hflags, hwritten⟩ := modify16_spec s rm (fun v t => op.alu count v t) op.flagsWritten hwf
    hmem hframe
  refine ⟨_, rfl, ?_⟩
  rw [State.shift16, if_neg h0, hvalue, hflags]
  exact ⟨houtcome, hwritten⟩

end Sys2Proof.Machine
end

section
/-! PROOFS. The corner cases of the byte shifts and rotates by CL (42_shift_rotate.md R191 to R197). -/

namespace Sys2Proof.Machine

/-! ## The shifts in closed form -/

/-- SHL by one more than `k` (42_shift_rotate.md R191). -/
theorem iterate_shlBit_succ {n : Nat} (k : Nat) (v : BitVec n) (c : Bool) :
    iterate shlBit (k + 1) (v, c) = (v <<< (k + 1), (v <<< k).msb) := by
  induction k generalizing v c with
  | zero => simp [iterate, shlBit]
  | succ k ih => rw [iterate, shlBit, ih, ← BitVec.shiftLeft_add, ← BitVec.shiftLeft_add, Nat.add_comm 1, Nat.add_comm 1]

/-- SHR by one more than `k` (42_shift_rotate.md R192). -/
theorem iterate_shrBit_succ {n : Nat} (k : Nat) (v : BitVec n) (c : Bool) :
    iterate shrBit (k + 1) (v, c) = (v >>> (k + 1), (v >>> k).getLsbD 0) := by
  induction k generalizing v c with
  | zero => simp [iterate, shrBit]
  | succ k ih => rw [iterate, shrBit, ih, ← BitVec.shiftRight_add, ← BitVec.shiftRight_add, Nat.add_comm 1, Nat.add_comm 1]

/-- SAR by one more than `k` (42_shift_rotate.md R193). -/
theorem iterate_sarBit_succ {n : Nat} (k : Nat) (v : BitVec n) (c : Bool) :
    iterate sarBit (k + 1) (v, c) = (v.sshiftRight (k + 1), (v.sshiftRight k).getLsbD 0) := by
  induction k generalizing v c with
  | zero => simp [iterate, sarBit]
  | succ k ih => rw [iterate, sarBit, ih, ← BitVec.sshiftRight_add, ← BitVec.sshiftRight_add, Nat.add_comm 1, Nat.add_comm 1]

/-- SAR by enough leaves the sign in every bit. -/
theorem getLsbD_sshiftRight_past {k i : Nat} (v : Byte) (hk : 7 ≤ k) (hi : i < 8) : (v.sshiftRight k).getLsbD i = v.msb := by
  rw [BitVec.getLsbD_sshiftRight, decide_eq_false (Nat.not_le.mpr hi), Bool.not_false, Bool.true_and]
  split
  next h =>
    rw [show k + i = 7 by omega, BitVec.msb_eq_getLsbD_last]
  next => rfl

/-- SAR by enough leaves ones or zeros. -/
theorem sshiftRight_past {k : Nat} (v : Byte) (hk : 7 ≤ k) : v.sshiftRight k = if v.msb then 0xFF else 0 := by
  refine BitVec.eq_of_getLsbD_eq fun i hi => ?_
  rw [getLsbD_sshiftRight_past v hk hi]
  cases v.msb with
  | false => simp
  | true => exact ((BitVec.getLsbD_allOnes (v := 8)).trans (decide_eq_true hi)).symm

/-- SHL by the width or past it leaves zeros. -/
theorem shiftLeft_past {k : Nat} (v : Byte) (hk : 8 ≤ k) : v <<< k = 0 := BitVec.shiftLeft_eq_zero hk

/-- The last bit SHL by the width pushes out. -/
theorem msb_shiftLeft_seven (v : Byte) : (v <<< 7).msb = v.getLsbD 0 := by
  rw [BitVec.msb_eq_getLsbD_last, BitVec.getLsbD_shiftLeft]
  rfl

/-- SHR by the width or past it leaves zeros. -/
theorem ushiftRight_past {k : Nat} (v : Byte) (hk : 8 ≤ k) : v >>> k = 0 := BitVec.ushiftRight_eq_zero hk

/-- The last bit SHR by the width pushes out. -/
theorem getLsbD_shiftRight_seven (v : Byte) : (v >>> 7).getLsbD 0 = v.msb := by
  rw [BitVec.msb_eq_getLsbD_last, BitVec.getLsbD_ushiftRight]

/-! ## The rotates as rings of bits -/

/-- The ring a rotate through CF turns: the eight bits, then CF. -/
def carryRing (x : Byte × Bool) (i : Nat) : Bool := if i < 8 then x.1.getLsbD i else x.2

/-- The ring a rotate turns: the eight bits. -/
def bitRing (x : Byte × Bool) (i : Nat) : Bool := x.1.getLsbD i

/-- A bit that enters below. -/
theorem getLsbD_shiftLeft_or_lowBit (v : Byte) (b : Bool) (i : Nat) (hi : i < 8) :
    (v <<< 1 ||| lowBit b).getLsbD i = if i = 0 then b else v.getLsbD (i - 1) := by
  have hlow : (lowBit b : Byte).getLsbD i = (b && decide (i = 0)) := by cases b <;> simp [lowBit]
  rw [BitVec.getLsbD_or, BitVec.getLsbD_shiftLeft, hlow]
  rcases Nat.eq_zero_or_pos i with h | h
  · simp [h]
  · simp [hi, h.ne', Nat.not_lt.mpr h]

/-- A bit that enters above. -/
theorem getLsbD_shiftRight_or_topBit (v : Byte) (b : Bool) (i : Nat) :
    (v >>> 1 ||| topBit b).getLsbD i = if i = 7 then b else v.getLsbD (i + 1) := by
  have htop : (topBit b : Byte).getLsbD i = (b && decide (i = 7)) := by
    cases b <;> simp [topBit, BitVec.getLsbD_twoPow, eq_comm]
  rw [BitVec.getLsbD_or, BitVec.getLsbD_ushiftRight, htop, Nat.add_comm 1]
  split
  next h => rw [BitVec.getLsbD_of_ge _ _ (by omega)]; simp [h]
  next h => simp [h]

/-- Turning a ring of `size` bits by `d` places, as often as asked. -/
theorem iterate_ring {size d : Nat} {f : Byte × Bool → Byte × Bool} {ring : Byte × Bool → Nat → Bool}
    (hturn : ∀ x i, i < size → ring (f x) i = ring x ((i + d) % size)) (k : Nat) (x : Byte × Bool) (i : Nat) (hi : i < size) :
    ring (iterate f k x) i = ring x ((i + d * k) % size) := by
  induction k generalizing x with
  | zero => rw [Nat.mul_zero, Nat.add_zero, Nat.mod_eq_of_lt hi]; rfl
  | succ k ih =>
    rw [iterate, ih, hturn _ _ (Nat.mod_lt _ (by omega)), Nat.mod_add_mod, Nat.mul_succ, Nat.add_assoc]

/-- One bit of ROL turns the ring by one place down (42_shift_rotate.md R194). -/
theorem bitRing_rolBit (x : Byte × Bool) (i : Nat) (hi : i < 8) : bitRing (rolBit x) i = bitRing x ((i + 7) % 8) := by
  refine (getLsbD_shiftLeft_or_lowBit x.1 x.1.msb i hi).trans ?_
  split
  next h => rw [h]; rfl
  next h => exact congrArg x.1.getLsbD (by omega)

/-- One bit of ROR turns the ring by one place up (42_shift_rotate.md R195). -/
theorem bitRing_rorBit (x : Byte × Bool) (i : Nat) (hi : i < 8) : bitRing (rorBit x) i = bitRing x ((i + 1) % 8) := by
  refine (getLsbD_shiftRight_or_topBit x.1 (x.1.getLsbD 0) i).trans ?_
  split
  next h => rw [h]; rfl
  next h => exact congrArg x.1.getLsbD (by omega)

/-- One bit of RCL turns the ring by one place down (42_shift_rotate.md R196). -/
theorem carryRing_rclBit (x : Byte × Bool) (i : Nat) (hi : i < 9) : carryRing (rclBit x) i = carryRing x ((i + 8) % 9) := by
  unfold carryRing
  by_cases h8 : i < 8
  · rw [if_pos h8, rclBit, getLsbD_shiftLeft_or_lowBit _ _ i h8]
    split
    next h => rw [h]; rfl
    next h => rw [if_pos (by omega)]; exact congrArg x.1.getLsbD (by omega)
  · obtain rfl : i = 8 := by omega
    rfl

/-- One bit of RCR turns the ring by one place up (42_shift_rotate.md R197). -/
theorem carryRing_rcrBit (x : Byte × Bool) (i : Nat) (hi : i < 9) : carryRing (rcrBit x) i = carryRing x ((i + 1) % 9) := by
  unfold carryRing
  by_cases h8 : i < 8
  · rw [if_pos h8, rcrBit, getLsbD_shiftRight_or_topBit _ _ i]
    split
    next h => rw [h]; rfl
    next h => rw [if_pos (by omega)]; exact congrArg x.1.getLsbD (by omega)
  · obtain rfl : i = 8 := by omega
    rfl

/-- A whole number of turns of the ring of bits gives the value back. -/
theorem iterate_bitRing {d k : Nat} {f : Byte × Bool → Byte × Bool}
    (hturn : ∀ x i, i < 8 → bitRing (f x) i = bitRing x ((i + d) % 8)) (hk : d * k % 8 = 0) (x : Byte × Bool) :
    (iterate f k x).1 = x.1 :=
  BitVec.eq_of_getLsbD_eq fun i hi => (iterate_ring hturn k x i hi).trans (congrArg x.1.getLsbD (by omega))

/-- A whole number of turns of the ring with CF gives the value and CF back. -/
theorem iterate_carryRing {d k : Nat} {f : Byte × Bool → Byte × Bool}
    (hturn : ∀ x i, i < 9 → carryRing (f x) i = carryRing x ((i + d) % 9)) (hk : d * k % 9 = 0) (x : Byte × Bool) :
    iterate f k x = x := by
  have hring : ∀ i, i < 9 → carryRing (iterate f k x) i = carryRing x i := fun i hi =>
    (iterate_ring hturn k x i hi).trans (congrArg (carryRing x) (by omega))
  refine Prod.ext (BitVec.eq_of_getLsbD_eq fun i hi => ?_) (hring 8 (by decide))
  have := hring i (by omega)
  rwa [carryRing, carryRing, if_pos hi, if_pos hi] at this

/-- The last round of many. -/
theorem iterate_succ_last {α : Type} (f : α → α) (k : Nat) (x : α) : iterate f (k + 1) x = f (iterate f k x) := by
  induction k generalizing x with
  | zero => rfl
  | succ k ih => rw [iterate, ih]; rfl

/-- After ROL, CF is bit 0 (42_shift_rotate.md R194). -/
theorem cf_iterate_rolBit (k : Nat) (x : Byte × Bool) (hk : k ≠ 0) : (iterate rolBit k x).2 = (iterate rolBit k x).1.getLsbD 0 := by
  obtain ⟨k, rfl⟩ := Nat.exists_eq_succ_of_ne_zero hk
  rw [Nat.succ_eq_add_one, iterate_succ_last]
  exact (getLsbD_shiftLeft_or_lowBit _ _ 0 (by decide)).symm

/-- After ROR, CF is the top bit (42_shift_rotate.md R195). -/
theorem cf_iterate_rorBit (k : Nat) (x : Byte × Bool) (hk : k ≠ 0) : (iterate rorBit k x).2 = (iterate rorBit k x).1.msb := by
  obtain ⟨k, rfl⟩ := Nat.exists_eq_succ_of_ne_zero hk
  rw [Nat.succ_eq_add_one, iterate_succ_last]
  exact (getLsbD_shiftRight_or_topBit _ _ 7).symm

/-! ## The instructions -/

/-- A byte shift by CL of a register, at a count that is not 0. -/
theorem exec_shiftCl_reg (op : ShiftOp) (s : State) (r : Reg8) {c : Nat} (hc : c = (s.reg8 .cl).toNat % 32) (h0 : c ≠ 0)
    {v : Byte} {cf : Bool} (h : iterate op.bit c (s.reg8 r, s.flags.CF) = (v, cf)) :
    ∃ t, exec (op.byteInstr true (.reg r)) s = .next t ∧ t.reg8 r = v ∧ t.flags.CF = cf := by
  obtain ⟨⟨-, hcf, -, -⟩, -, -⟩ := op.alu_spec (m := 7) c (s.reg8 r) s
  rw [op.rounds_eq_iterate c (s.reg8 r, s.flags.CF), h] at hcf
  refine ⟨_, exec_shift_byte op true (.reg r) s, ?_⟩
  rw [if_pos rfl, countCL_eq, ← hc, State.shift8, if_neg h0]
  refine ⟨(Regs.get8_set8_same _ _ _).trans ?_, hcf⟩
  exact (congrArg Prod.fst (op.alu_eq c (s.reg8 r) s)).trans (congrArg Prod.fst h)

/-- Settles O22: past the width a shift has lost every bit, and a rotate has turned its ring a whole number of times. -/
theorem shiftsPastTheWidth : Obligations.ShiftsPastTheWidth := by
  intro s r c _ hc
  refine ⟨fun h => ?_, fun h => ?_, fun h => ?_, fun h => ?_, fun h => ?_, fun h => ?_, fun h => ?_, fun h => ?_, fun h => ?_⟩
  · subst h
    exact exec_shiftCl_reg .shl s r hc (by decide) ((iterate_shlBit_succ 7 _ _).trans
      (Prod.ext (shiftLeft_past _ (by decide)) (msb_shiftLeft_seven _)))
  · obtain ⟨k, rfl⟩ : ∃ k, c = k + 1 := ⟨c - 1, by omega⟩
    have hzero : s.reg8 r <<< k = 0 := shiftLeft_past _ (by omega)
    refine exec_shiftCl_reg .shl s r hc (by omega) ((iterate_shlBit_succ k _ _).trans (Prod.ext ?_ ?_))
    · exact shiftLeft_past _ (by omega)
    · exact congrArg BitVec.msb hzero
  · subst h
    exact exec_shiftCl_reg .shr s r hc (by decide) ((iterate_shrBit_succ 7 _ _).trans
      (Prod.ext (ushiftRight_past _ (by decide)) (getLsbD_shiftRight_seven _)))
  · obtain ⟨k, rfl⟩ : ∃ k, c = k + 1 := ⟨c - 1, by omega⟩
    have hzero : s.reg8 r >>> k = 0 := ushiftRight_past _ (by omega)
    refine exec_shiftCl_reg .shr s r hc (by omega) ((iterate_shrBit_succ k _ _).trans (Prod.ext ?_ ?_))
    · exact ushiftRight_past _ (by omega)
    · exact congrArg (BitVec.getLsbD · 0) hzero
  · obtain ⟨k, rfl⟩ : ∃ k, c = k + 1 := ⟨c - 1, by omega⟩
    exact exec_shiftCl_reg .sar s r hc (by omega) ((iterate_sarBit_succ k _ _).trans
      (Prod.ext (sshiftRight_past _ (by omega)) (getLsbD_sshiftRight_past _ (by omega) (by decide))))
  · have hvalue := iterate_bitRing (k := c) bitRing_rolBit (by omega) (s.reg8 r, s.flags.CF)
    exact exec_shiftCl_reg .rol s r hc (by omega)
      (Prod.ext hvalue ((cf_iterate_rolBit c _ (by omega)).trans (congrArg (BitVec.getLsbD · 0) hvalue)))
  · have hvalue := iterate_bitRing (k := c) bitRing_rorBit (by omega) (s.reg8 r, s.flags.CF)
    exact exec_shiftCl_reg .ror s r hc (by omega)
      (Prod.ext hvalue ((cf_iterate_rorBit c _ (by omega)).trans (congrArg BitVec.msb hvalue)))
  · exact exec_shiftCl_reg .rcl s r hc (by omega) (iterate_carryRing carryRing_rclBit (by omega) _)
  · exact exec_shiftCl_reg .rcr s r hc (by omega) (iterate_carryRing carryRing_rcrBit (by omega) _)

end Sys2Proof.Machine
end

section
/-! PROOFS. The compares without a prefix, and the repetition loop of all ten string rows (43_string.md R210 to R216). -/

namespace Sys2Proof.Machine

/-! ## One compare -/

/-- Settles O24: without a prefix each row is one iteration: the flags of its subtraction, then the pointer steps, which read no flag but DF
(43_string.md R212, R215). -/
theorem stringComparesOneElement : Obligations.StringComparesOneElement := by
  rintro s _ _ _ _ hrep rfl rfl rfl rfl
  refine ⟨⟨_, exec_string_once .cmpsb rfl s hrep, ?_⟩, ⟨_, exec_string_once .cmpsw rfl s hrep, ?_⟩,
    ⟨_, exec_string_once .scasb rfl s hrep, ?_⟩, ⟨_, exec_string_once .scasw rfl s hrep, ?_⟩⟩
  · obtain ⟨hcarry, hother⟩ := setArith_spec .sub s.src8 s.dst8 false s.flags
    exact ⟨hcarry, hother, SI_stepSI (subAlu s.src8 s.dst8 s).2 1, DI_stepDI ((subAlu s.src8 s.dst8 s).2.stepSI 1) 1,
      ((frame_setArith s _).trans (frame_stepSI _ 1)).trans (frame_stepDI _ 1)⟩
  · obtain ⟨hcarry, hother⟩ := setArith_spec .sub s.src16 s.dst16 false s.flags
    exact ⟨hcarry, hother, SI_stepSI (subAlu s.src16 s.dst16 s).2 2, DI_stepDI ((subAlu s.src16 s.dst16 s).2.stepSI 2) 2,
      ((frame_setArith s _).trans (frame_stepSI _ 2)).trans (frame_stepDI _ 2)⟩
  · obtain ⟨hcarry, hother⟩ := setArith_spec .sub (s.reg8 .al) s.dst8 false s.flags
    exact ⟨hcarry, hother, DI_stepDI (subAlu (s.reg8 .al) s.dst8 s).2 1, (frame_setArith s _).trans (frame_stepDI _ 1)⟩
  · obtain ⟨hcarry, hother⟩ := setArith_spec .sub s.regs.AX s.dst16 false s.flags
    exact ⟨hcarry, hother, DI_stepDI (subAlu s.regs.AX s.dst16 s).2 2, (frame_setArith s _).trans (frame_stepDI _ 2)⟩

/-! ## One turn of the loop -/

/-- A count that is not 0 is one more than the count after a turn. -/
theorem toNat_sub_one (x : Word) (h : x ≠ 0) : x.toNat = (x - 1).toNat + 1 := by
  have hpos : x.toNat ≠ 0 := fun e => h (BitVec.eq_of_toNat_eq e)
  have := x.isLt
  rw [BitVec.toNat_sub, show (1 : Word).toNat = 1 from rfl]
  omega

/-- One less, as the statements write it. -/
theorem ofInt_toNat_sub_one (x : Word) : BitVec.ofInt 16 ((x.toNat : Int) - 1) = x - 1 := by
  rw [Int.sub_eq_add_neg, BitVec.ofInt_add, BitVec.ofInt_natCast, BitVec.ofNat_toNat, BitVec.setWidth_eq, BitVec.sub_eq_add_neg,
    show BitVec.ofInt 16 (-1) = -1#16 by decide]
  rfl

/-- A repeated string row is its loop. -/
theorem exec_string_rep (i : Instr) (hi : isStringInstr i = true) (s : State) (hrep : s.cur.rep ≠ .none) :
    exec i s = .next (repLoop i (iterOf i) (comparesElements i) s.regs.CX.toNat s) := by
  rw [(exec_string i hi).1, stringOp_rep _ _ _ _ hrep]

/-- The prefix of a repetition is not looked at by an iteration. -/
theorem iterOf_without_rep (i : Instr) (hi : isStringInstr i = true) (s : State) :
    ({ iterOf i { s with cur := { s.cur with rep := .none } } with cur := s.cur } : State) = iterOf i s := by
  obtain ⟨-, hiter⟩ := exec_string i hi
  obtain ⟨hregs, hflags, hmem⟩ := hiter.looks s { s with cur := { s.cur with rep := .none } } rfl rfl rfl rfl
  have honly := hiter.only { s with cur := { s.cur with rep := .none } }
  have honly' := hiter.only s
  unfold OnlyData at honly honly'
  rw [honly, honly', hregs, hflags, hmem]

/-- The count of an iteration is the one before it, less one. -/
theorem CX_countDown (i : Instr) (hi : isStringInstr i = true) (s : State) : (iterOf i s).countDown.regs.CX = s.regs.CX - 1 :=
  congrArg (· - 1) ((exec_string i hi).2.cx s)

/-- The turn of a loop in the words of the statements: an iteration without the prefix, then the count. -/
theorem countDown_iterOf (i : Instr) (hi : isStringInstr i = true) (s t : State)
    (ht : exec i { s with cur := { s.cur with rep := .none } } = .next t) :
    (iterOf i s).countDown = { t with regs := { t.regs with CX := s.regs.CX - 1 }, cur := s.cur } := by
  rw [exec_string_once i hi _ rfl] at ht
  obtain rfl := Host.Outcome.next.inj ht
  rw [← iterOf_without_rep i hi s, ← (exec_string i hi).2.cx s, ← iterOf_without_rep i hi s]
  rfl

/-- The ZF test after a turn in the words of the statements. -/
theorem zfEnds_countDown (i : Instr) (hi : isStringInstr i = true) (s : State) :
    (iterOf i s).countDown.zfEnds (comparesElements i) = true ↔
      comparesElements i = true ∧ zfMismatch s.cur.rep (iterOf i s).flags.ZF := by
  have hcur : (iterOf i s).countDown.cur = s.cur := by rw [iter_countDown_only (exec_string i hi).2 s]
  rw [zfEnds_iff, hcur]
  rfl

/-- Settles O25: the equations of one turn, with a suspension point that is not felt. -/
theorem repetitionUnrolls : Obligations.RepetitionUnrolls := by
  intro i s hi hrep hquiet
  refine ⟨fun hcx => by rw [exec_string_rep i hi s hrep, hcx]; rfl, fun hcx => ?_⟩
  have hturn := countDown_iterOf i hi s _ (exec_string_once i hi { s with cur := { s.cur with rep := .none } } rfl)
  have honly := iter_countDown_only (exec_string i hi).2 s
  have hquiet' : Quiet (iterOf i s).countDown := quiet_of_only hquiet honly
  refine ⟨_, (iterOf i s).countDown, exec_string_once i hi _ rfl, by rw [ofInt_toNat_sub_one, hturn], fun hzf => ?_, fun hzf => ?_⟩
  · rw [exec_string_rep i hi s hrep, toNat_sub_one _ hcx, repLoop_zfEnds _ hcx ((zfEnds_countDown i hi s).mpr hzf)]
  · have hcur : (iterOf i s).countDown.cur = s.cur := by rw [honly]
    rw [exec_string_rep i hi s hrep, exec_string_rep i hi (iterOf i s).countDown (by rw [hcur]; exact hrep), toNat_sub_one _ hcx, CX_countDown i hi,
      repLoop_running _ hcx (fun h => hzf ((zfEnds_countDown i hi s).mp h)) (by rw [suspend_quiet _ hquiet']; exact hquiet'.1),
      suspend_quiet _ hquiet']

/-! ## The whole loop -/

/-- A repeated string row while the host asks for nothing. -/
theorem exec_string_quiet (i : Instr) (hi : isStringInstr i = true) (s : State) (hrep : s.cur.rep ≠ .none) (hquiet : Quiet s) :
    exec i s = .next (repQuiet (iterOf i) (comparesElements i) s.regs.CX.toNat s) := by
  rw [exec_string_rep i hi s hrep, repLoop_quiet (exec_string i hi).2 i _ s hquiet]

/-- Settles O26: what the quiet loop ends with, and what it leaves alone. -/
theorem repetitionEnds : Obligations.RepetitionEnds := by
  intro i s hi hrep hquiet
  have hiter := (exec_string i hi).2
  have honly := repQuiet_only hiter s.regs.CX.toNat s
  obtain ⟨hends, hle⟩ := repQuiet_ends hiter s.regs.CX.toNat s rfl
  obtain ⟨hflags, hnoflags⟩ := flags_repQuiet hiter s.regs.CX.toNat s
  refine ⟨_, exec_string_quiet i hi s hrep hquiet, hends.imp_right fun hzf => ?_, hle, honly,
    part_repQuiet i hi _ _ s, hflags, hnoflags, fun hs => mem_repQuiet_eq i hi hs _ _ s, fun hwf => mem_repQuiet i hi _ _ s hwf⟩
  rw [zfEnds_iff] at hzf
  rwa [show s.cur = (repQuiet (iterOf i) (comparesElements i) s.regs.CX.toNat s).cur by rw [honly]]

/-! ## REP STOSB -/

/-- The elements of an upward byte string lie at DI and after it. -/
theorem elementAt_one_up (s : State) (hup : s.flags.DF = false) (k : Nat) : s.elementAt 1 k = s.regs.DI + BitVec.ofNat 16 k := by
  rw [elementAt_eq, State.delta, hup]
  exact congrArg (s.regs.DI + ·) (BitVec.mul_one _)

/-- The elements that come after DI do not come round to it, as long as there are fewer than a segment's. -/
theorem phys_not_mem_later (s t : State) (n : Nat) (hn : n < 65535) (hup : s.flags.DF = false)
    (hlater : ∀ k, t.elementAt 1 k = s.elementAt 1 (k + 1)) :
    phys s.regs.ES s.regs.DI ∉ (List.range n).map fun k => phys s.regs.ES (t.elementAt 1 k) := by
  intro h
  obtain ⟨k, hk, e⟩ := List.mem_map.mp h
  rw [hlater, elementAt_one_up s hup] at e
  have hoff := congrArg BitVec.toNat (phys_inj _ _ _ e)
  have := List.mem_range.mp hk
  rw [BitVec.toNat_add, BitVec.toNat_ofNat] at hoff
  omega

/-- The bytes and the pointer of an upward REP STOSB (43_string.md R214, R216). -/
theorem repQuiet_stosb_up (n : Nat) (s : State) (hn : n = s.regs.CX.toNat) (hwf : s.mem.wf = true) (hup : s.flags.DF = false) :
    (repQuiet iterStosb false n s).regs.DI = s.regs.DI + BitVec.ofNat 16 n ∧
      ∀ k : Nat, k < n → (repQuiet iterStosb false n s).mem.read8 s.regs.ES (s.regs.DI + BitVec.ofNat 16 k) = s.reg8 .al := by
  induction n generalizing s with
  | zero => exact ⟨(BitVec.add_zero _).symm, fun k hk => absurd hk (Nat.not_lt_zero k)⟩
  | succ n ih =>
    have hcx : s.regs.CX ≠ 0 := fun e => by rw [e] at hn; cases hn
    have hcount := toNat_sub_one _ hcx
    have hlt := s.regs.CX.isLt
    have hDI : (iterStosb s).countDown.regs.DI = s.regs.DI + 1 := by
      show s.regs.DI + s.delta 1 = _
      rw [State.delta, hup]; rfl
    obtain ⟨hptr, hbytes⟩ := ih (iterStosb s).countDown (by show n = (s.regs.CX - 1).toNat; omega)
      (Memory.wf_write8 _ _ _ _ hwf) hup
    have hturn : repQuiet iterStosb false (n + 1) s = repQuiet iterStosb false n (iterStosb s).countDown :=
      (if_neg hcx).trans (if_neg Bool.false_ne_true)
    rw [hDI] at hptr hbytes
    rw [hturn]
    refine ⟨by rw [hptr, BitVec.ofNat_add, BitVec.add_assoc, BitVec.add_comm 1]; rfl, fun k hk => ?_⟩
    cases k with
    | zero =>
      have hkeep := mem_repQuiet .stosb rfl false n (iterStosb s).countDown (Memory.wf_write8 _ _ _ _ hwf) (phys s.regs.ES s.regs.DI)
        (by
          refine phys_not_mem_later s (iterStosb s).countDown _ ?_ hup (elementAt_succ rfl rfl)
          show (s.regs.CX - 1).toNat < 65535
          omega)
      rw [show BitVec.ofNat 16 0 = 0#16 from rfl, BitVec.add_zero]
      exact hkeep.trans (Memory.byteAt_setByteAt_same _ _ _ hwf)
    | succ k =>
      have := hbytes k (by omega)
      rwa [BitVec.add_assoc, BitVec.add_comm 1, show (1 : Word) = BitVec.ofNat 16 1 from rfl, ← BitVec.ofNat_add] at this

/-- Settles O27: the quiet loop runs to CX at 0, for STOSB does not compare, and its elements lie at DI and after it. -/
theorem repeatedStoreFills : Obligations.RepeatedStoreFills := by
  intro s hwf hrep hquiet hup
  have hiter := (exec_string .stosb rfl).2
  have honly := repQuiet_only hiter s.regs.CX.toNat s
  obtain ⟨hends, -⟩ := repQuiet_ends hiter s.regs.CX.toNat s rfl
  obtain ⟨hptr, hbytes⟩ := repQuiet_stosb_up s.regs.CX.toNat s rfl hwf hup
  have hflags := (flags_repQuiet hiter s.regs.CX.toNat s).2 rfl
  refine ⟨_, exec_string_quiet .stosb rfl s hrep hquiet, hends.resolve_right Bool.false_ne_true, hptr.trans ?_, hbytes,
    part_repQuiet .stosb rfl _ _ s, fun f _ => congrArg (Flags.get · f) hflags, fun a ha => ?_, ?_⟩
  · rw [BitVec.ofNat_toNat, BitVec.setWidth_eq]
  · refine mem_repQuiet .stosb rfl _ _ s hwf a fun h => ha ?_
    rwa [State.stringStored, funext fun k => congrArg (phys s.regs.ES) (elementAt_one_up s hup k)] at h
  · conv_lhs => rw [honly]
    rw [honly]

/-! ## Calls of the host within a loop -/

/-- A `Stop()` at a suspension point of a run (60_exceptions.md R374). -/
theorem suspend_stop (s : State) (rest : List (List HostCall)) (hrun : s.run_state = .running) (hinbox : s.inbox = [.stop] :: rest) :
    s.suspend = ({ s with inbox := rest } : State).endRun := by
  simp only [State.suspend, State.deliver, hinbox, State.hostCalls, State.hostCall, State.sample, hrun]
  rfl

/-- A `SetPaused(true)` at a suspension point of a run (60_exceptions.md R374). -/
theorem suspend_pause (s : State) (rest : List (List HostCall)) (hrun : s.run_state = .running) (hreq : s.requested_state = .running)
    (hinbox : s.inbox = [.setPaused true] :: rest) :
    s.suspend = ({ s with inbox := rest, requested_state := .paused } : State).enter .paused := by
  simp only [State.suspend, State.deliver, hinbox, State.hostCalls, State.hostCall, hreq, if_true, State.sample, hrun]

/-- A `SetPaused(false)` at a suspension point while Paused (60_exceptions.md R374). -/
theorem suspend_unpause (s : State) (rest : List (List HostCall)) (hrun : s.run_state = .paused) (hreq : s.requested_state = .paused)
    (hinbox : s.inbox = [.setPaused false] :: rest) :
    s.suspend = ({ s with inbox := rest, requested_state := .running } : State).enter .running := by
  simp only [State.suspend, State.deliver, hinbox, State.hostCalls, State.hostCall, hreq, if_true, State.sample, hrun]

/-- Settles O28: the turn in progress is done, and its suspension point ends the run. -/
theorem stopAbandonsRepetition : Obligations.StopAbandonsRepetition := by
  intro i s t rest hi hrep hcx hrun hreq hinbox ht hzf
  have honly := iter_countDown_only (exec_string i hi).2 s
  have hturn := countDown_iterOf i hi s t ht
  have hregs : (iterOf i s).countDown.regs = { t.regs with CX := s.regs.CX - 1 } := by rw [hturn]
  have hflags : (iterOf i s).countDown.flags = t.flags := by rw [hturn]
  have hmem : (iterOf i s).countDown.mem = t.mem := by rw [hturn]
  have hsuspend := suspend_stop (iterOf i s).countDown rest (by rw [honly]; exact hrun) (by rw [honly]; exact hinbox)
  have hIP : (iterOf i s).countDown.regs.IP = s.regs.IP := (exec_string i hi).2.parts s .ip (by decide)
  refine ⟨(iterOf i s).countDown.suspend, ?_, ?_⟩
  · rw [exec_string_rep i hi s hrep, toNat_sub_one _ hcx, repLoop_stopped _ hcx]
    · rw [zfEnds_countDown i hi, show (iterOf i s).flags = t.flags from hflags]; exact hzf
    · rw [hsuspend]; rfl
  · rw [hsuspend]
    refine ⟨hregs, hflags, hmem, hIP, rfl, rfl, rfl, rfl, ?_⟩
    show HostEvent.stateChanged (iterOf i s).countDown.callbacks .stopped :: (iterOf i s).countDown.host_log = _
    rw [honly]

/-- `t` holds what a repetition looks at as `s` does. -/
structure LooksAlike (s t : State) : Prop where
  regs : t.regs = s.regs
  flags : t.flags = s.flags
  mem : t.mem = s.mem
  cur : t.cur = s.cur

/-- A turn keeps what a repetition looks at alike. -/
theorem LooksAlike.turn {s t : State} (h : LooksAlike s t) {iter : State → State} {c : Bool} (hiter : Iterates iter c) :
    LooksAlike (iter s).countDown (iter t).countDown := by
  obtain ⟨hregs, hflags, hmem⟩ := hiter.looks s t h.regs h.flags h.mem (by rw [h.cur])
  refine ⟨congrArg (fun g : Regs => g.set16 .cx (g.CX - 1)) hregs, hflags, hmem, ?_⟩
  rw [iter_countDown_only hiter s, iter_countDown_only hiter t]
  exact h.cur

/-- The ZF test is alike. -/
theorem LooksAlike.zfEnds {s t : State} (h : LooksAlike s t) (c : Bool) : t.zfEnds c = s.zfEnds c := by
  unfold State.zfEnds
  rw [h.cur, h.flags]

/-- Quiet loops from alike states end in alike states. -/
theorem LooksAlike.repQuiet {s t : State} (h : LooksAlike s t) {iter : State → State} {c : Bool} (hiter : Iterates iter c) (n : Nat) :
    LooksAlike (repQuiet iter c n s) (repQuiet iter c n t) := by
  induction n generalizing s t with
  | zero => exact h
  | succ n ih =>
    have hturn := h.turn hiter
    simp only [Machine.repQuiet, h.regs, hturn.zfEnds]
    split
    · exact h
    · split
      · exact hturn
      · exact ih hturn

/-- A loop that the host pauses after its first turn, and what it waits with. -/
theorem exec_paused (i : Instr) (hi : isStringInstr i = true) (s u : State) (rest : List (List HostCall)) (hrep : s.cur.rep ≠ .none)
    (hrun : s.run_state = .running) (hreq : s.requested_state = .running) (hinbox : s.inbox = [.setPaused true] :: rest)
    (hu : exec i s = .next u) (hpaused : u.run_state = .paused) :
    s.regs.CX ≠ 0 ∧ ¬(iterOf i s).countDown.zfEnds (comparesElements i) = true ∧
      u = { ({ (iterOf i s).countDown with inbox := rest, requested_state := .paused } : State).enter .paused with pending := some i } := by
  have honly := iter_countDown_only (exec_string i hi).2 s
  have hrunning : (iterOf i s).countDown.run_state = .running := by rw [honly]; exact hrun
  rw [exec_string_rep i hi s hrep] at hu
  obtain rfl := Host.Outcome.next.inj hu
  by_cases hcx : s.regs.CX = 0
  · rw [hcx] at hpaused
    exact absurd (hrun.symm.trans hpaused) (by decide)
  rw [toNat_sub_one _ hcx] at hpaused ⊢
  by_cases hzf : (iterOf i s).countDown.zfEnds (comparesElements i) = true
  · rw [repLoop_zfEnds _ hcx hzf] at hpaused
    exact absurd (hrunning.symm.trans hpaused) (by decide)
  have hsuspend := suspend_pause (iterOf i s).countDown rest hrunning (by rw [honly]; exact hreq) (by rw [honly]; exact hinbox)
  refine ⟨hcx, hzf, ?_⟩
  rw [repLoop_paused _ hcx hzf (by rw [hsuspend]; rfl), hsuspend]

/-- The end of an instruction that leaves no loop to wait. -/
theorem endInstr_of_pending_none {s : State} (h : s.pending = none) : s.endInstr = { s with cur := InFlight.empty } := by
  rw [State.endInstr, h]
  rfl

/-- The step that goes on with a paused loop, while the host asks for nothing more. -/
theorem step_unpaused (i : Instr) (hi : isStringInstr i = true) (u : State) (hrep : u.cur.rep ≠ .none) (hrun : u.run_state = .paused)
    (hreq : u.requested_state = .paused) (hinbox : u.inbox = [[.setPaused false]]) (hpending : u.pending = some i) :
    ∃ x, LooksAlike u x ∧ x.pending = none ∧ x.run_state = .running ∧
      step u = .next (repQuiet (iterOf i) (comparesElements i) x.regs.CX.toNat x).endInstr := by
  have hsuspend := suspend_unpause u [] hrun hreq hinbox
  refine ⟨{ u.suspend with pending := none }, by rw [hsuspend]; exact ⟨rfl, rfl, rfl, rfl⟩, rfl, by rw [hsuspend]; rfl, ?_⟩
  have hrunOn : runOn u.suspend = resume i u.suspend := by
    rw [runOn, show u.suspend.pending = some i by rw [hsuspend]; exact hpending]
  rw [step_running (by rw [hrun]; decide) (by rw [hsuspend]; rfl), hrunOn, resume, exec_string_quiet i hi]
  · rfl
  · rw [hsuspend]; exact hrep
  · rw [hsuspend]; exact ⟨rfl, rfl, rfl⟩

/-- Settles O29: paused after its first turn and resumed, the loop goes on from a state that looks as it did, and quiet loops from such
states end alike. -/
theorem pauseInRepetitionIsTransparent : Obligations.PauseInRepetitionIsTransparent := by
  intro i s t u hi hrep hquiet ht hu hpaused
  obtain ⟨hrun, hreq, hinbox⟩ := hquiet
  have hiter := (exec_string i hi).2
  have halike : LooksAlike s { s with inbox := [[.setPaused true], [.setPaused false]] } := ⟨rfl, rfl, rfl, rfl⟩
  have hturn := halike.turn hiter
  generalize hs' : ({ s with inbox := [[.setPaused true], [.setPaused false]] } : State) = s' at hu halike hturn
  obtain ⟨hcx, hzf, hwaits⟩ := exec_paused i hi s' u [[.setPaused false]] (by rw [halike.cur]; exact hrep) (by rw [← hs']; exact hrun)
    (by rw [← hs']; exact hreq) (by rw [← hs']) hu hpaused
  have hW : LooksAlike (iterOf i s).countDown u := by rw [hwaits]; exact ⟨hturn.regs, hturn.flags, hturn.mem, hturn.cur⟩
  have hcur : (iterOf i s).countDown.cur = s.cur := by rw [iter_countDown_only hiter s]
  obtain ⟨x, hux, hpending, hrunning, hstep⟩ := step_unpaused i hi u (by rw [hW.cur, hcur]; exact hrep) hpaused
    (by rw [hwaits]; rfl) (by rw [hwaits]; rfl) (by rw [hwaits])
  have hx : LooksAlike (iterOf i s).countDown x :=
    ⟨hux.regs.trans hW.regs, hux.flags.trans hW.flags, hux.mem.trans hW.mem, hux.cur.trans hW.cur⟩
  rw [halike.regs] at hcx
  rw [hturn.zfEnds] at hzf
  have hunpaused : t = repQuiet (iterOf i) (comparesElements i) x.regs.CX.toNat (iterOf i s).countDown := by
    rw [exec_string_quiet i hi s hrep ⟨hrun, hreq, hinbox⟩] at ht
    rw [← Host.Outcome.next.inj ht, toNat_sub_one _ hcx, repQuiet, if_neg hcx, if_neg hzf, hx.regs, CX_countDown i hi]
  have hsame := hx.repQuiet hiter x.regs.CX.toNat
  rw [← hunpaused] at hsame
  have honly := repQuiet_only hiter x.regs.CX.toNat x
  have hnone : (repQuiet (iterOf i) (comparesElements i) x.regs.CX.toNat x).pending = none := by rw [honly]; exact hpending
  have hrun' : (repQuiet (iterOf i) (comparesElements i) x.regs.CX.toNat x).run_state = .running := by rw [honly]; exact hrunning
  rw [endInstr_of_pending_none hnone] at hstep
  exact ⟨_, hstep, hsame.regs, hsame.flags, hsame.mem, hrun', hnone⟩

end Sys2Proof.Machine
end

section
/-! PROOFS. MOV with direct addresses and segment registers, XCHG, LEA, LDS, LES, pushes and pops (44_transfer.md R234 to R255; 20_memory.md
R70, R71, R86). -/

namespace Sys2Proof.Machine

/-! ## MOV, XCHG, far loads -/

/-- A byte register that is written reads as written. -/
theorem reg8_setReg8_same (s : State) (r : Reg8) (v : Byte) : (s.setReg8 r v).reg8 r = v := Regs.get8_set8_same _ _ _

/-- Settles O31: each row is one write, of its destination as the source was read. -/
theorem moveDirectAndSegment : Obligations.MoveDirectAndSegment := by
  intro s moffs hwf
  exact ⟨⟨_, rfl, reg8_setReg8_same s .al _, frame_setReg8 s .al _⟩, ⟨_, rfl, rfl, frame_setReg16 s .ax _⟩,
    ⟨_, rfl, Memory.byteAt_setByteAt_same _ _ _ hwf, frame_write8 s _ _ _ hwf⟩,
    ⟨_, rfl, Memory.wordAt_setWordAt_same _ _ _ hwf, frame_write16 s _ _ _ hwf⟩,
    fun rm r => exec_put16_spec hwf rfl,
    fun rm r => ⟨_, rfl, Regs.getS_setS_same _ _ _, frame_setSReg s r _⟩⟩

/-- What XCHG of bytes does: the register is written last, with what was read first (44_transfer.md R240). -/
theorem xchg8_spec (s : State) (rm : Rm8) (r : Reg8) (hwf : s.mem.wf = true) :
    (s.xchg8 rm r).get8 (s.loc8 rm) = s.reg8 r ∧ (s.xchg8 rm r).reg8 r = s.rm8 rm ∧
      Frame s (s.xchg8 rm r) (rm.parts ++ [.byte r]) [] (s.stored8 rm) := by
  refine ⟨?_, Regs.get8_set8_same _ _ _, ?_⟩
  · cases rm with
    | mem m => exact Memory.byteAt_setByteAt_same _ _ _ hwf
    | reg q =>
      show ((s.regs.set8 q (s.reg8 r)).set8 r (s.reg8 q)).get8 q = s.reg8 r
      by_cases h : q = r
      · rw [h, Regs.get8_set8_same]
      · rw [Regs.get8_set8_ne _ _ _ _ h, Regs.get8_set8_same]
  · exact ((frame_put8 s s rm _ [] (Frame.refl s) hwf).trans (frame_setReg8 _ r _)).mono (by simp) (by simp) (by simp)

/-- What XCHG of words does: the register is written last, with what was read first (44_transfer.md R240). -/
theorem xchg16_spec (s : State) (rm : Rm16) (r : Reg16) (hwf : s.mem.wf = true) :
    (s.xchg16 rm r).get16 (s.loc16 rm) = s.reg16 r ∧ (s.xchg16 rm r).reg16 r = s.rm16 rm ∧
      Frame s (s.xchg16 rm r) (rm.parts ++ r.parts) [] (s.stored16 rm) := by
  refine ⟨?_, Regs.get16_set16_same _ _ _, ?_⟩
  · cases rm with
    | mem m => exact Memory.wordAt_setWordAt_same _ _ _ hwf
    | reg q =>
      show ((s.regs.set16 q (s.reg16 r)).set16 r (s.reg16 q)).get16 q = s.reg16 r
      by_cases h : q = r
      · rw [h, Regs.get16_set16_same]
      · rw [Regs.get16_set16_ne _ _ _ _ h, Regs.get16_set16_same]
  · exact ((frame_put16 s s rm _ [] (Frame.refl s) hwf).trans (frame_setReg16 _ r _)).mono (by simp) (by simp) (by simp)

/-- Settles O32: the three rows are exchanges, and NOP exchanges AX with itself. -/
theorem exchangeSwapsOperands : Obligations.ExchangeSwapsOperands := by
  intro s hwf
  exact ⟨fun rm r => ⟨_, rfl, xchg8_spec s rm r hwf⟩, fun rm r => ⟨_, rfl, xchg16_spec s rm r hwf⟩,
    fun r => ⟨_, rfl, xchg16_spec s (.reg .ax) r hwf⟩, rfl⟩

/-- What LDS and LES do (44_transfer.md R244, R245). -/
theorem loadFar_spec (s : State) (sr : SReg) (r : Reg16) (m : MemOp) :
    (s.loadFar sr r m).reg16 r = s.mem.read16 (s.memSeg m) (s.ea m) ∧
      (s.loadFar sr r m).sreg sr = s.mem.read16 (s.memSeg m) (s.ea m + 2) ∧
      Frame s (s.loadFar sr r m) (.seg sr :: r.parts) [] [] := by
  refine ⟨(Regs.get16_setS _ _ _ _).trans (Regs.get16_set16_same _ _ _), Regs.getS_setS_same _ _ _, ?_⟩
  exact ((frame_setReg16 s r _).trans (frame_setSReg _ sr _)).mono (by simp [or_comm]) (by simp) (by simp)

/-- Settles O33: LEA writes one register with the offset; the far loads write two with what was read before. -/
theorem addressLoads : Obligations.AddressLoads := by
  intro s r m
  exact ⟨⟨_, rfl, Regs.get16_set16_same _ _ _, frame_setReg16 s r _⟩, ⟨_, rfl, loadFar_spec s .ds r m⟩,
    ⟨_, rfl, loadFar_spec s .es r m⟩⟩

/-! ## Pushes -/

/-- What a push does (20_memory.md R70). -/
theorem push16_spec (s : State) (v : Word) (hwf : s.mem.wf = true) :
    (s.push16 v).regs.SP = s.regs.SP - 2 ∧ (s.push16 v).mem.read16 s.regs.SS (s.regs.SP - 2) = v ∧
      Frame s (s.push16 v) [.sp] [] s.pushSlot :=
  ⟨rfl, Memory.wordAt_setWordAt_same _ _ _ hwf, frame_push16 s v hwf⟩

/-- PUSH of a register is a push, of the new SP for SP itself (44_transfer.md R248). -/
theorem pushReg_eq (s : State) (r : Reg16) : s.pushReg r = s.push16 (if r = .sp then s.regs.SP - 2 else s.reg16 r) := by
  unfold State.pushReg
  by_cases h : r = .sp
  · rw [if_pos ⟨h, rfl⟩, if_pos h]; rfl
  · rw [if_neg fun e => h e.1, if_neg h]

/-- An instruction that is a push. -/
theorem exec_push_spec {i : Instr} {s : State} {v : Word} (hwf : s.mem.wf = true) (hexec : exec i s = .next (s.push16 v)) :
    ∃ t, exec i s = .next t ∧ t.regs.SP = s.regs.SP - 2 ∧ t.mem.read16 s.regs.SS (s.regs.SP - 2) = v ∧
      Frame s t [.sp] [] s.pushSlot := ⟨_, hexec, push16_spec s v hwf⟩

/-- `50` to `57` push a register. -/
theorem exec_pushR16 (s : State) (r : Reg16) :
    exec (.pushR16 r) s = .next (s.push16 (if r = .sp then s.regs.SP - 2 else s.reg16 r)) :=
  congrArg Host.Outcome.next (pushReg_eq s r)

/-- `FF /6` with a register pushes it as `50` to `57` do. -/
theorem exec_pushRm16_reg (s : State) (r : Reg16) :
    exec (.pushRm16 (.reg r)) s = .next (s.push16 (if r = .sp then s.regs.SP - 2 else s.reg16 r)) :=
  congrArg Host.Outcome.next (pushReg_eq s r)

/-- Settles O34: every row is a push. -/
theorem pushesStoreOneWord : Obligations.PushesStoreOneWord := by
  rintro s i v hwf (⟨r, rfl, rfl⟩ | ⟨r, rfl, rfl⟩ | ⟨m, rfl, rfl⟩ | ⟨rfl, rfl⟩ | ⟨rfl, rfl⟩ | ⟨rfl, rfl⟩ | ⟨rfl, rfl⟩ | ⟨rfl, rfl⟩)
  · exact exec_push_spec hwf (exec_pushR16 s r)
  · exact exec_push_spec hwf (exec_pushRm16_reg s r)
  all_goals exact exec_push_spec hwf rfl

/-! ## Pops -/

/-- No base expression names SP: a pop moves no operand (44_transfer.md R252). -/
theorem loc16_dropTop (s : State) (rm : Rm16) : s.dropTop.loc16 rm = s.loc16 rm := by
  match rm with
  | .reg _ => rfl
  | .mem (.direct _) => rfl
  | .mem (.based b _) => cases b <;> rfl

/-- No base expression names SP: a pop moves no stored byte. -/
theorem stored16_dropTop (s : State) (rm : Rm16) : s.dropTop.stored16 rm = s.stored16 rm := by
  match rm with
  | .reg _ => rfl
  | .mem (.direct _) => rfl
  | .mem (.based b _) => cases b <;> rfl

/-- What a pop to an operand does (44_transfer.md R251, R252). -/
theorem popTo_spec (s : State) (d : Rm16) (hwf : s.mem.wf = true) :
    (s.popTo d).get16 (s.loc16 d) = s.top16 ∧ (d ≠ .reg .sp → (s.popTo d).regs.SP = s.regs.SP + 2) ∧
      Frame s (s.popTo d) (.sp :: d.parts) [] (s.stored16 d) := by
  refine ⟨get16_put16 _ _ _ hwf, fun hd => ?_, ?_⟩
  · cases d with
    | mem m => rfl
    | reg r => exact Regs.get16_set16_ne _ _ .sp _ fun e => hd (by rw [e])
  · have hput := frame_put16 s.dropTop s.dropTop d s.top16 [] (Frame.refl _) hwf
    rw [loc16_dropTop, stored16_dropTop] at hput
    exact (frame_dropTop s).trans hput

/-- What a pop to a segment register does (44_transfer.md R253). -/
theorem popSReg_spec (s : State) (r : SReg) :
    (s.popSReg r).sreg r = s.top16 ∧ (s.popSReg r).regs.SP = s.regs.SP + 2 ∧ Frame s (s.popSReg r) [.sp, .seg r] [] [] := by
  refine ⟨Regs.getS_setS_same _ _ _, ?_, (frame_dropTop s).trans (frame_setSReg _ r _)⟩
  cases r <;> rfl

/-- POPF may write every flag (44_transfer.md R255). -/
theorem frame_popf (s : State) :
    Frame s (s.dropTop.setFlags (Flags.unpack s.top16)) [.sp] (.df :: .if_ :: .tf :: statusFlags) [] :=
  (frame_dropTop s).trans (frame_setFlags _ _ _ fun f hf => absurd (by cases f <;> decide) hf)

/-- Settles O35: every row is a pop to its destination. -/
theorem popsLoadOneWord : Obligations.PopsLoadOneWord := by
  rintro s w hwf rfl
  refine ⟨?_, ?_, _, rfl, rfl, rfl, frame_popf s⟩
  · rintro i d (rfl | ⟨r, rfl, rfl⟩)
    · exact ⟨_, rfl, popTo_spec s d hwf⟩
    · exact ⟨_, rfl, popTo_spec s (.reg r) hwf⟩
  · rintro i r (⟨rfl, rfl⟩ | ⟨rfl, rfl⟩ | ⟨rfl, rfl⟩)
    · exact ⟨_, rfl, popSReg_spec s .es⟩
    · exact ⟨_, rfl, popSReg_spec s .ss⟩
    · exact ⟨_, rfl, popSReg_spec s .ds⟩

/-- A part that has its old value again is no part of the frame. -/
theorem Frame.drop_part {s t : State} {p : RegPart} {ps : List RegPart} {fs : List FlagName} {ms : List Phys}
    (h : Frame s t (p :: ps) fs ms) (hp : t.part p = s.part p) : Frame s t ps fs ms := by
  refine ⟨fun q hq => ?_, h.flags, h.mem, h.rest⟩
  by_cases e : q = p
  · rw [e, hp]
  · exact h.regs q fun hm => (List.mem_cons.mp hm).elim e hq

/-- Settles O36: the pop reads the word just pushed, and SP is back. -/
theorem pushThenPopMovesTheWord : Obligations.PushThenPopMovesTheWord := by
  intro s x y hwf hx hy
  obtain ⟨hSP, hword, hpush⟩ := push16_spec s (s.reg16 x) hwf
  have hwf' : (s.push16 (s.reg16 x)).mem.wf = true := Memory.wf_write16 _ _ _ _ hwf
  obtain ⟨hvalue, hSP', hpop⟩ := popTo_spec (s.push16 (s.reg16 x)) (.reg y) hwf'
  have hback : ((s.push16 (s.reg16 x)).popTo (.reg y)).regs.SP = s.regs.SP := by
    rw [hSP' fun e => hy (Rm16.reg.inj e), hSP, BitVec.sub_add_cancel]
  have hframe := ((hpush.trans hpop).mono (p' := .sp :: y.parts) (f' := []) (m' := s.pushSlot) (by simp [Rm16.parts]) (by simp)
    (by simp [State.stored16])).drop_part hback
  refine ⟨s.push16 (s.reg16 x), (s.push16 (s.reg16 x)).popTo (.reg y), ?_, rfl, hvalue.trans hword, hback, hframe⟩
  rw [exec_pushR16, if_neg hx]

end Sys2Proof.Machine
end

section
/-! PROOFS. Jumps, loops, calls, returns, the entry of a dispatch and the return from one (45_control_flow.md R271 to R288; 60_exceptions.md R340;
46_interrupt_instr.md R313). -/

namespace Sys2Proof.Machine

/-! ## Jumps and loops -/

/-- A relative target by a word, as the statements write it (30_encoding.md R103). -/
theorem add_eq_ofInt (ip rel : Word) : ip + rel = BitVec.ofInt 16 (ip.toNat + rel.toInt) := by
  rw [BitVec.ofInt_add, BitVec.ofInt_natCast, BitVec.ofNat_toNat, BitVec.setWidth_eq, BitVec.ofInt_toInt]

/-- Settles O39: each row is one write of IP, or of CS and IP. -/
theorem unconditionalJumps : Obligations.UnconditionalJumps := by
  refine fun s => ⟨fun rel => ?_, fun rel => ?_, fun _ _ => rfl, fun _ => rfl, fun _ => rfl⟩
  · rw [← target8_eq_ofInt]; rfl
  · rw [← add_eq_ofInt]; rfl

/-- A loop row: CX goes down, then the jump is taken or not (45_control_flow.md R278 to R280). -/
theorem loopIf_eq (s : State) (also : Bool) (rel : Byte) :
    s.loopIf also rel = { s with regs := { s.regs with
      CX := s.regs.CX - 1, IP := if s.regs.CX - 1 ≠ 0 ∧ also = true then s.target8 rel else s.regs.IP } } := by
  have htaken : (decide (s.regs.CX - 1 ≠ 0) && also) = true ↔ s.regs.CX - 1 ≠ 0 ∧ also = true := by
    rw [Bool.and_eq_true, decide_eq_true_iff]
  unfold State.loopIf State.jumpIf
  by_cases h : s.regs.CX - 1 ≠ 0 ∧ also = true
  · rw [if_pos h]; exact if_pos (htaken.mpr h)
  · rw [if_neg h]; exact if_neg fun e => h (htaken.mp e)

/-- Settles O38: the three rows differ in what they ask of ZF. -/
theorem loopsCountDown : Obligations.LoopsCountDown := by
  rintro s rel _ _ rfl rfl
  rw [ofInt_toNat_sub_one, ← target8_eq_ofInt]
  refine ⟨(congrArg Host.Outcome.next (loopIf_eq s true rel)).trans ?_, congrArg Host.Outcome.next (loopIf_eq s s.flags.ZF rel),
    (congrArg Host.Outcome.next (loopIf_eq s (!s.flags.ZF) rel)).trans ?_⟩
  · simp only [and_true]
  · simp only [Bool.not_eq_true']

/-! ## Two words on the stack -/

/-- An offset that does not follow another in the segment does not follow it in memory. -/
theorem phys_ne_succ (seg a b : Word) (h : a ≠ b + 1) : phys seg a ≠ phys seg b + 1 := by
  intro e
  have e := congrArg BitVec.toNat e
  have ha := a.isLt
  have hb := b.isLt
  have hseg := seg.isLt
  rw [ne_eq, ← BitVec.toNat_inj] at h
  simp only [BitVec.toNat_add, toNat_phys, show (1 : Word).toNat = 1 from rfl, show (1 : Phys).toNat = 1 from rfl] at e h
  omega

/-- Two words of the stack, `c` and `d` below its top, do not touch each other. -/
theorem read16_write16_apart (m : Memory) (seg top c d v : Word) (hwf : m.wf = true) (h : c ≠ d) (hleft : c ≠ d - 1)
    (hright : c - 1 ≠ d) : (m.write16 seg (top - d) v).read16 seg (top - c) = m.read16 seg (top - c) := by
  have hne : top - c ≠ top - d := fun e => h (sub_right_inj.mp e)
  have hneLeft : top - c ≠ top - d + 1 := fun e => hleft (sub_right_inj.mp (e.trans (sub_add top d 1)))
  have hneRight : top - d ≠ top - c + 1 := fun e => hright (sub_right_inj.mp (e.trans (sub_add top c 1))).symm
  exact Memory.wordAt_setWordAt_ne m _ _ v hwf (fun e => hne (phys_inj seg _ _ e)) (phys_ne_succ seg _ _ hneLeft)
    (phys_ne_succ seg _ _ hneRight).symm

/-- Two steps of the stack pointer. -/
theorem sub_two_two (x : Word) : x - 2 - 2 = x - 4 := by
  rw [BitVec.sub_sub]; rfl

/-- Two pushes: both words, the pointer and the frame. -/
theorem push16_push16_spec (s : State) (v w : Word) (hwf : s.mem.wf = true) :
    ((s.push16 v).push16 w).regs.SP = s.regs.SP - 4 ∧
      ((s.push16 v).push16 w).mem.read16 s.regs.SS (s.regs.SP - 2) = v ∧
      ((s.push16 v).push16 w).mem.read16 s.regs.SS (s.regs.SP - 4) = w ∧
      Frame s ((s.push16 v).push16 w) [.sp] [] s.pushSlots2 := by
  have hwf' : (s.push16 v).mem.wf = true := Memory.wf_write16 _ _ _ _ hwf
  obtain ⟨-, hv, hframe⟩ := push16_spec s v hwf
  obtain ⟨hSP, hw, hframe'⟩ := push16_spec (s.push16 v) w hwf'
  have hslot : s.pushSlots2 = s.pushSlot ++ (s.push16 v).pushSlot := by
    unfold State.pushSlots2
    rw [← sub_two_two]; rfl
  have hmem : ((s.push16 v).push16 w).mem = (s.push16 v).mem.write16 s.regs.SS (s.regs.SP - 4) w := by
    rw [← sub_two_two]; rfl
  refine ⟨hSP.trans (sub_two_two _), ?_, ?_, ?_⟩
  · rw [hmem, read16_write16_apart _ _ _ 2 4 w hwf' (by decide) (by decide) (by decide)]
    exact hv
  · rw [← sub_two_two]; exact hw
  · rw [hslot]
    exact (hframe.trans hframe').mono (by simp) (by simp) (fun _ => id)

/-! ## Calls -/

/-- What a near call does (45_control_flow.md R281, R283). -/
theorem exec_callNear_spec {i : Instr} {s : State} {target : Word} (hwf : s.mem.wf = true) (hexec : exec i s = .next (s.callNear target)) :
    ∃ t, exec i s = .next t ∧ t.regs.IP = target ∧ t.regs.SP = s.regs.SP - 2 ∧
      t.mem.read16 s.regs.SS (s.regs.SP - 2) = s.regs.IP ∧ Frame s t [.sp, .ip] [] s.pushSlot := by
  obtain ⟨hSP, hword, hframe⟩ := push16_spec s s.regs.IP hwf
  exact ⟨_, hexec, rfl, hSP, hword, (hframe.trans (frame_setIP _ _)).mono (by simp) (by simp) (by simp)⟩

/-- What a far call does (45_control_flow.md R282, R284). -/
theorem exec_callFar_spec {i : Instr} {s : State} {seg off : Word} (hwf : s.mem.wf = true) (hexec : exec i s = .next (s.callFar seg off)) :
    ∃ t, exec i s = .next t ∧ t.regs.CS = seg ∧ t.regs.IP = off ∧ t.regs.SP = s.regs.SP - 4 ∧
      t.mem.read16 s.regs.SS (s.regs.SP - 2) = s.regs.CS ∧ t.mem.read16 s.regs.SS (s.regs.SP - 4) = s.regs.IP ∧
      Frame s t [.sp, .ip, .seg .cs] [] s.pushSlots2 := by
  obtain ⟨hSP, hCS, hIP, hframe⟩ := push16_push16_spec s s.regs.CS s.regs.IP hwf
  exact ⟨_, hexec, rfl, rfl, hSP, hCS, hIP, (hframe.trans (frame_setCSIP _ _ _)).mono (by simp) (by simp) (by simp)⟩

/-- Settles O40: two rows are near calls, two are far calls, of a target read before the pushes. -/
theorem callsPushTheReturnAddress : Obligations.CallsPushTheReturnAddress := by
  refine fun s hwf => ⟨?_, ?_⟩
  · rintro i target (⟨rel, rfl, rfl⟩ | ⟨rm, rfl, rfl⟩)
    · rw [← add_eq_ofInt]; exact exec_callNear_spec hwf rfl
    · exact exec_callNear_spec hwf rfl
  · rintro i seg off (rfl | ⟨m, rfl, rfl, rfl⟩)
    · exact exec_callFar_spec hwf rfl
    · exact exec_callFar_spec hwf rfl

/-! ## Returns -/

/-- Two pops of the stack pointer. -/
theorem add_two_two (x : Word) : x + 2 + 2 = x + 4 := by
  rw [BitVec.add_assoc]; rfl

/-- Three pops of the stack pointer. -/
theorem add_two_two_two (x : Word) : x + 2 + 2 + 2 = x + 6 := by
  rw [BitVec.add_assoc, BitVec.add_assoc]; rfl

/-- Two pops, as a change of SP. -/
theorem dropTop_dropTop (s : State) : s.dropTop.dropTop = { s with regs := { s.regs with SP := s.regs.SP + 4 } } := by
  rw [← add_two_two]; rfl

/-- Three pops, as a change of SP. -/
theorem dropTop_dropTop_dropTop (s : State) : s.dropTop.dropTop.dropTop = { s with regs := { s.regs with SP := s.regs.SP + 6 } } := by
  rw [← add_two_two_two]; rfl

/-- A far return, as a change of IP, CS and SP (45_control_flow.md R287). -/
theorem retFar_eq (s : State) : s.retFar = { s with regs := { s.regs with
    IP := s.top16, CS := s.dropTop.top16, SP := s.regs.SP + 4 } } := by
  rw [State.retFar, dropTop_dropTop]; rfl

/-- Settles O41: the pops come before the writes of IP and CS, and `iw` is added last. -/
theorem returnsPopTheAddress : Obligations.ReturnsPopTheAddress := by
  rintro s iw _ _ rfl rfl
  refine ⟨rfl, rfl, congrArg Host.Outcome.next (retFar_eq s), ?_⟩
  exact congrArg (fun t : State => Host.Outcome.next (t.release iw)) (retFar_eq s)

/-- Settles O44: three pops, of IP, CS and the flags by their bits. -/
theorem interruptReturnPopsThreeWords : Obligations.InterruptReturnPopsThreeWords := by
  rintro s _ _ _ rfl rfl rfl
  have hthird : s.dropTop.dropTop.top16 = s.mem.read16 s.regs.SS (s.regs.SP + 4) := by rw [dropTop_dropTop]; rfl
  have hiret : s.iret = (s.dropTop.dropTop.dropTop.setCSIP s.dropTop.top16 s.top16).setFlags (Flags.unpack s.dropTop.dropTop.top16) := rfl
  rw [dropTop_dropTop_dropTop, hthird] at hiret
  exact congrArg Host.Outcome.next hiret

/-! ## The entry of a dispatch -/

/-- Settles O42: three pushes, none of which touches the words above it, then IF and TF. -/
theorem dispatchEntryPushesThreeWords : Obligations.DispatchEntryPushesThreeWords := by
  intro s hwf
  obtain ⟨hSP, hflags, hCS, hframe⟩ := push16_push16_spec s s.flags.pack s.regs.CS hwf
  have hwf' : ((s.push16 s.flags.pack).push16 s.regs.CS).mem.wf = true := Memory.wf_write16 _ _ _ _ (Memory.wf_write16 _ _ _ _ hwf)
  obtain ⟨hSP', hIP, hframe'⟩ := push16_spec ((s.push16 s.flags.pack).push16 s.regs.CS) s.regs.IP hwf'
  have hthird : s.regs.SP - 2 - 2 - 2 = s.regs.SP - 6 := by rw [BitVec.sub_sub, BitVec.sub_sub]; rfl
  have hmem : s.enterInterrupt.mem =
      ((s.push16 s.flags.pack).push16 s.regs.CS).mem.write16 s.regs.SS (s.regs.SP - 6) s.regs.IP := by rw [← hthird]; rfl
  refine ⟨hSP'.trans hthird, ?_, ?_, ?_, rfl, rfl, ?_⟩
  · rw [hmem, read16_write16_apart _ _ _ 2 6 _ hwf' (by decide) (by decide) (by decide)]
    exact hflags
  · rw [hmem, read16_write16_apart _ _ _ 4 6 _ hwf' (by decide) (by decide) (by decide)]
    exact hCS
  · rw [← hthird]; exact hIP
  · have hslots : s.pushSlots3 = s.pushSlots2 ++ ((s.push16 s.flags.pack).push16 s.regs.CS).pushSlot := by
      unfold State.pushSlots3
      rw [← hthird]; rfl
    have hset : Frame (((s.push16 s.flags.pack).push16 s.regs.CS).push16 s.regs.IP) s.enterInterrupt [] [.if_, .tf] [] :=
      frame_setFlags _ _ _ fun f hf => by cases f <;> first | rfl | exact absurd (by simp) hf
    rw [hslots]
    exact ((hframe.trans hframe').trans hset).mono (by simp) (by simp) (by simp)

end Sys2Proof.Machine
end

section
/-! PROOFS. The FLAGS word, the flag instructions, the prefixes and the refused encodings (10_state.md R38; 47_flag_control.md; 30_encoding.md R91
to R93, R109). -/

namespace Sys2Proof.Machine

/-! ## The FLAGS word -/

/-- Settles O6: each flag has a bit of its own, and the fixed bits are those of 0xF002. -/
theorem flagsImageLayout : Obligations.FlagsImageLayout := by
  refine ⟨fun f => ?_, fun w => rfl⟩
  obtain ⟨cf, pf, af, zf, sf, of, df, if_, tf⟩ := f
  revert cf pf af zf sf of df if_ tf
  decide

/-- Settles O47: each row is one write of one flag. -/
theorem flagInstructions : Obligations.FlagInstructions := fun _ => ⟨rfl, rfl, rfl, rfl, rfl, rfl, rfl⟩

/-! ## Prefixes -/

/-- The record after one prefix (30_encoding.md R91, R92). -/
def InFlight.afterPrefix (r : InFlight) (p : Instr) : InFlight :=
  { r with seg := p.segmentOf?.or r.seg, rep := p.repetitionOf?.getD r.rep }

/-- A prefix writes its part of the record (30_encoding.md R91, R92). -/
theorem exec_prefix_eq (p : Instr) (hp : p.isPrefix = true) (s : State) :
    exec p s = .next { s with cur := s.cur.afterPrefix p } := by
  unfold Instr.isPrefix at hp
  split at hp
  all_goals first | rfl | exact absurd hp Bool.false_ne_true

/-- The last of a list with one more in front. -/
theorem getLast?_cons_or {α : Type} (a : α) (l : List α) : (a :: l).getLast? = l.getLast?.or (some a) := by
  rw [List.getLast?_cons]
  cases l.getLast? <;> rfl

/-- The last segment prefix of a list. -/
theorem seg_execAll (p : Instr) (ps : List Instr) (old : Option SReg) :
    ((ps.filterMap Instr.segmentOf?).getLast?.or (p.segmentOf?.or old)) = (((p :: ps).filterMap Instr.segmentOf?).getLast?.or old) := by
  rw [List.filterMap_cons]
  cases p.segmentOf? with
  | none => rfl
  | some r => rw [getLast?_cons_or, Option.or_assoc]

/-- The last repetition prefix of a list. -/
theorem rep_execAll (p : Instr) (ps : List Instr) (old : RepPrefix) :
    ((ps.filterMap Instr.repetitionOf?).getLast?.getD (p.repetitionOf?.getD old)) =
      (((p :: ps).filterMap Instr.repetitionOf?).getLast?.getD old) := by
  rw [List.filterMap_cons]
  cases p.repetitionOf? with
  | none => rfl
  | some r =>
    rw [getLast?_cons_or]
    cases (ps.filterMap Instr.repetitionOf?).getLast? <;> rfl

/-- Any number of prefixes: the last of each kind wins (30_encoding.md R93). -/
theorem execAll_prefixes_eq (ps : List Instr) (hps : ∀ p ∈ ps, p.isPrefix = true) (s : State) :
    execAll ps s = .next { s with cur := { s.cur with
      seg := (ps.filterMap Instr.segmentOf?).getLast?.or s.cur.seg
      rep := (ps.filterMap Instr.repetitionOf?).getLast?.getD s.cur.rep } } := by
  induction ps generalizing s with
  | nil => rfl
  | cons p ps ih =>
    rw [execAll, exec_prefix_eq p (hps p List.mem_cons_self) s]
    refine (ih (fun q hq => hps q (List.mem_cons_of_mem _ hq)) _).trans ?_
    rw [← seg_execAll, ← rep_execAll]
    rfl

/-- Settles O48: a prefix writes its part of the record, so that a list of them leaves the last of each kind. -/
theorem prefixesAccumulate : Obligations.PrefixesAccumulate := by
  refine fun s => ⟨rfl, rfl, rfl, rfl, rfl, rfl, fun ps hps => (execAll_prefixes_eq ps hps s).trans ?_⟩
  cases (ps.filterMap Instr.segmentOf?).getLast? <;> cases (ps.filterMap Instr.repetitionOf?).getLast? <;> rfl

/-! ## Refused encodings -/

/-- Settles O49: a refused encoding is the fatal path of the state it meets (60_exceptions.md R332). -/
theorem refusedEncodingsAreFatal : Obligations.RefusedEncodingsAreFatal := by
  intro i k s hk
  obtain ⟨hregs, hflags, hmem, hCS, hIP, hrun, hreq, -, hcallbacks, -, -, -, -, -, -, hlog⟩ :=
    raise_spec s s (k.error s.cur.bytes s.LAST_CS s.LAST_IP)
  exact ⟨_, exec_refused i k s hk, hregs, hflags, hmem, hCS, hIP, hrun, hreq, hcallbacks, hlog⟩

end Sys2Proof.Machine
end

section
/-! PROOFS. What a step and an instruction can do as a whole: what runs, what can stop, who writes LAST_CS:LAST_IP, DF and CS (60_exceptions.md R332
to R334, R371, R374; 10_state.md R24, R35, R40). -/

namespace Sys2Proof.Machine

/-! ## Steps that run nothing -/

/-- While Stopped a step is a batch of calls. -/
theorem step_stopped {s : State} (hrun : s.run_state = .stopped) : step s = .next s.deliver := by
  rw [step, move, hrun]

/-- A step after whose suspension point the machine does not run is that suspension point. -/
theorem step_resting {s : State} (hrun : s.run_state ≠ .stopped) (hrest : s.suspend.run_state ≠ .running) :
    step s = .next s.suspend := by
  unfold step move
  dsimp only
  split
  next h => exact absurd h hrun
  next =>
    split
    next h => exact absurd h hrest
    next => rfl

/-! ## Instructions that cannot stop -/

/-- Settles O54: string rows, refused encodings and plain rows give a next state, and a dispatch refuses nothing. -/
theorem onlyDispatchesCanStop : Obligations.OnlyDispatchesCanStop := by
  intro i s
  have hnext : dispatches i = false → ∃ t, exec i s = .next t := by
    intro hdispatch
    by_cases hstring : isStringInstr i = true
    · exact ⟨_, (exec_string i hstring).1 s⟩
    cases hrefused : i.decodeError? with
    | some k => exact ⟨_, exec_refused i k s hrefused⟩
    | none =>
      obtain ⟨t, ht, -⟩ := exec_plain i s (by simp [isPlain, hstring, hdispatch, hrefused])
      exact ⟨t, ht⟩
  refine ⟨hnext, fun r hr => ?_⟩
  by_cases hdispatch : dispatches i = true
  · rcases exec_dispatches i s hdispatch with ⟨vector, e⟩ | ⟨t, e, -⟩
    · have hinterrupt := e.symm.trans hr
      rw [interrupt_eq] at hinterrupt
      split at hinterrupt <;> cases hinterrupt
    · cases e.symm.trans hr
  · obtain ⟨t, ht⟩ := hnext (Bool.eq_false_iff.mpr hdispatch)
    cases ht.symm.trans hr

/-! ## What instructions keep -/

/-- No row of strings names a segment register among its parts. -/
theorem seg_not_mem_stringParts (i : Instr) (r : SReg) : RegPart.seg r ∉ RegPart.byte .cl :: .byte .ch :: stringParts i := by
  unfold stringParts
  split <;> simp

/-- A string row while the host asks for nothing. -/
theorem exec_string_keeps (i : Instr) (hi : isStringInstr i = true) (s t : State) (hquiet : Quiet s) (ht : exec i s = .next t) :
    OnlyData s t ∧ t.flags.DF = s.flags.DF ∧ t.regs.CS = s.regs.CS := by
  obtain ⟨hexec, hiter⟩ := exec_string i hi
  by_cases hrep : s.cur.rep = .none
  · rw [hexec, stringOp_once _ _ _ _ hrep] at ht
    obtain rfl := Host.Outcome.next.inj ht
    exact ⟨hiter.only s, (hiter.loc s).df, (hiter.loc s).cs⟩
  · rw [exec_string_quiet i hi s hrep hquiet] at ht
    obtain rfl := Host.Outcome.next.inj ht
    exact ⟨repQuiet_only hiter _ s, (flags_repQuiet hiter _ s).1 .df (by decide),
      part_repQuiet i hi _ _ s (.seg .cs) (seg_not_mem_stringParts i .cs)⟩

/-- A dispatch leaves `LAST_CS:LAST_IP` alone, whatever the answer. -/
theorem interrupt_keeps_last (s t : State) (vector : Byte) (ht : s.interrupt vector = .next t) :
    t.LAST_CS = s.LAST_CS ∧ t.LAST_IP = s.LAST_IP := by
  obtain ⟨hCS, hIP, -⟩ := afterCall_keeps s vector
  rw [interrupt_eq] at ht
  split at ht <;> cases ht <;> exact ⟨hCS, hIP⟩

/-- No instruction writes `LAST_CS:LAST_IP` (10_state.md R40). -/
theorem exec_keeps_last (i : Instr) (s t : State) (hquiet : Quiet s) (ht : exec i s = .next t) :
    t.LAST_CS = s.LAST_CS ∧ t.LAST_IP = s.LAST_IP := by
  by_cases hstring : isStringInstr i = true
  · obtain ⟨honly, -, -⟩ := exec_string_keeps i hstring s t hquiet ht
    rw [honly]; exact ⟨rfl, rfl⟩
  cases hrefused : i.decodeError? with
  | some k =>
    rw [exec_refused i k s hrefused] at ht
    obtain rfl := Host.Outcome.next.inj ht
    exact ⟨rfl, rfl⟩
  | none =>
    by_cases hdispatch : dispatches i = true
    · rcases exec_dispatches i s hdispatch with ⟨vector, e⟩ | ⟨t', e, hlocal⟩
      · exact interrupt_keeps_last s t vector (e.symm.trans ht)
      · obtain rfl := Host.Outcome.next.inj (e.symm.trans ht)
        rw [hlocal.rest]; exact ⟨rfl, rfl⟩
    · obtain ⟨t', e, hplain⟩ := exec_plain i s (by simp [isPlain, hstring, hdispatch, hrefused])
      obtain rfl := Host.Outcome.next.inj (e.symm.trans ht)
      rw [hplain.rest]; exact ⟨rfl, rfl⟩

/-- The end of an instruction changes its record only. -/
theorem endInstr_cur (s : State) : ∃ r, s.endInstr = { s with cur := r } := by
  unfold State.endInstr
  split
  · exact ⟨s.cur, rfl⟩
  · exact ⟨_, rfl⟩

/-- Settles O56: a tick captures CS:IP, and the instruction it runs leaves the capture alone. -/
theorem lastRegistersHoldTheInstruction : Obligations.LastRegistersHoldTheInstruction := by
  refine ⟨fun s t hpending hquiet ht => ?_, exec_keeps_last⟩
  have hsuspend := suspend_quiet s hquiet
  rw [step_running (by rw [hquiet.1]; decide) (by rw [hsuspend]; exact hquiet.1), hsuspend, runOn, hpending] at ht
  obtain ⟨f, r, u, -, hu, rfl⟩ := tick_next ht
  obtain ⟨r', hr'⟩ := endInstr_cur u
  rw [hr']
  exact exec_keeps_last f.instr { s.captureLast.beginInstr f.bytes with cur := r } u hquiet hu

/-- The rows that may write DF or CS do write one of them, as the statement lists them. -/
theorem exec_leavesSegment (i : Instr) (s t : State) (hi : leavesSegment i = true) (ht : exec i s = .next t) :
    (t.flags.DF ≠ s.flags.DF → i ∈ [.popf, .iret, .cld, .std]) ∧
    (t.regs.CS ≠ s.regs.CS → i ∈ [.iret, .retf] ∨ (∃ off seg, i = .jmpPtr off seg) ∨ (∃ m, i = .jmpM16 m) ∨
      (∃ off seg, i = .callPtr off seg) ∨ (∃ m, i = .callM16 m) ∨ (∃ iw, i = .retfIw iw) ∨ (∃ rm, i = .movSregRm16 .cs rm)) := by
  have hkept : ∀ {α : Type} {x : α} {P : Prop}, x ≠ x → P := fun h => absurd rfl h
  unfold leavesSegment at hi
  split at hi
  · cases ht; exact ⟨fun _ => by simp, hkept⟩
  · cases ht; exact ⟨fun _ => by simp, fun _ => .inl (by simp)⟩
  · cases ht; exact ⟨fun _ => by simp, hkept⟩
  · cases ht; exact ⟨fun _ => by simp, hkept⟩
  · cases ht; exact ⟨hkept, fun _ => .inl (by simp)⟩
  · cases ht; exact ⟨hkept, fun _ => .inr (.inr (.inr (.inr (.inr (.inl ⟨_, rfl⟩)))))⟩
  · cases ht; exact ⟨hkept, fun _ => .inr (.inl ⟨_, _, rfl⟩)⟩
  · cases ht; exact ⟨hkept, fun _ => .inr (.inr (.inl ⟨_, rfl⟩))⟩
  · cases ht; exact ⟨hkept, fun _ => .inr (.inr (.inr (.inl ⟨_, _, rfl⟩)))⟩
  · cases ht; exact ⟨hkept, fun _ => .inr (.inr (.inr (.inr (.inl ⟨_, rfl⟩))))⟩
  · cases ht; exact ⟨hkept, fun _ => .inr (.inr (.inr (.inr (.inr (.inr ⟨_, rfl⟩)))))⟩
  · exact absurd hi Bool.false_ne_true

/-- Settles O57: string rows keep DF and CS, a plain row that keeps its segment does, and the rest are the rows listed. -/
theorem writersOfDirectionAndCodeSegment : Obligations.WritersOfDirectionAndCodeSegment := by
  intro i s t hquiet ht hdispatch hrefused
  by_cases hstring : isStringInstr i = true
  · obtain ⟨-, hDF, hCS⟩ := exec_string_keeps i hstring s t hquiet ht
    exact ⟨fun h => absurd hDF h, fun h => absurd hCS h⟩
  by_cases hleaves : leavesSegment i = true
  · exact exec_leavesSegment i s t hleaves ht
  · obtain ⟨t', e, hlocal⟩ := exec_local i s (by simp [isPlain, hstring, hdispatch, hrefused, hleaves])
    obtain rfl := Host.Outcome.next.inj (e.symm.trans ht)
    exact ⟨fun h => absurd hlocal.df h, fun h => absurd hlocal.cs h⟩

/-! ## The fatal path -/

/-- What a step logs without a fatal error is not a fatal error. -/
theorem LogQuiet.not_fatal {s t : State} {e : FatalError} (h : LogQuiet s t) (hlog : t.host_log ≠ s.host_log) :
    t.fatalError? ≠ some e := by
  rcases h with h | ⟨h, -⟩
  · exact absurd h hlog
  · rw [h]; exact Option.some_ne_none e ∘ Eq.symm

/-- The newest event of a log is not changed by the end of an instruction. -/
theorem fatalError?_endInstr (s : State) : s.endInstr.fatalError? = s.fatalError? := by
  obtain ⟨r, hr⟩ := endInstr_cur s
  rw [hr]; rfl

/-- While Stopped a step is a batch of calls, and a suspension point is no more. -/
theorem suspend_stopped (s : State) (hrun : s.run_state = .stopped) (hlog : s.deliver.host_log = s.host_log) :
    s.suspend = s.deliver :=
  (logQuiet_sample s.deliver).2 (((logQuiet_deliver s).2 hlog).trans hrun)

/-- A tick that ends in a fatal error has undone its instruction (60_exceptions.md R332, R334). -/
theorem tick_fatal (s t : State) (e : FatalError) (ht : tick s = .next t) (hlog : t.host_log ≠ s.host_log)
    (hfatal : t.fatalError? = some e) :
    t.regs = s.regs ∧ t.flags = s.flags ∧ t.mem = s.mem ∧ t.LAST_CS = s.regs.CS ∧ t.LAST_IP = s.regs.IP ∧
      t.run_state = .stopped ∧ t.requested_state = .stopped ∧ t.callbacks = s.callbacks := by
  obtain ⟨f, r, u, -, hu, rfl⟩ := tick_next ht
  obtain ⟨r', hr'⟩ := endInstr_cur u
  rcases exec_fatal f.instr _ u hu with hquiet | ⟨now, e', rfl, hCS, hIP, hcallbacks⟩
  · rw [fatalError?_endInstr] at hfatal
    rw [hr'] at hlog
    exact absurd hfatal (LogQuiet.not_fatal hquiet hlog)
  · rw [hr']
    exact ⟨rfl, rfl, rfl, hCS, hIP, rfl, rfl, hcallbacks⟩

/-- Settles O55: neither a batch of calls, a suspension point nor a string row raises a fatal error; a tick that does has undone its
instruction. -/
theorem fatalTickRollsBack : Obligations.FatalTickRollsBack := by
  intro s t e hinv ht hlog hfatal
  by_cases hstopped : s.run_state = .stopped
  · obtain rfl := Host.Outcome.next.inj ((step_stopped hstopped).symm.trans ht)
    have hsame : s.deliver.host_log = s.host_log := by
      by_contra hne
      exact LogQuiet.not_fatal (logQuiet_deliver s).1 hne hfatal
    rw [suspend_stopped s hstopped hsame] at hlog
    exact absurd rfl hlog
  by_cases hrunning : s.suspend.run_state = .running
  · rw [step_running hstopped hrunning, runOn] at ht
    obtain ⟨hregs, hflags, hmem⟩ := suspend_data s hstopped
    split at ht
    next i hi =>
      obtain ⟨-, hstring, -⟩ := hinv.pending_paused i (suspend_pending s i hi)
      obtain ⟨u, hu, rfl⟩ := finishTick_next ht
      obtain ⟨r, hr⟩ := endInstr_cur u
      rw [fatalError?_endInstr] at hfatal
      rw [hr] at hlog
      exact absurd hfatal (LogQuiet.not_fatal (logQuiet_string i hstring _ u hu) hlog)
    next =>
      rw [← hregs, ← hflags, ← hmem]
      exact tick_fatal s.suspend t e ht hlog hfatal
  · obtain rfl := Host.Outcome.next.inj ((step_resting hstopped hrunning).symm.trans ht)
    exact absurd rfl hlog

/-! ## Reset -/

/-- Settles O50: the power-on values, and a step that finds nothing to do, with or without a `Start()`. -/
theorem resetIsPowerOn : Obligations.ResetIsPowerOn := by
  refine ⟨fun r => ?_, fun r => ?_, rfl, fun f => ?_, rfl, rfl, rfl, rfl, rfl, rfl, fun _ => rfl, rfl, fun _ => rfl⟩
  · cases r <;> rfl
  · cases r <;> rfl
  · cases f <;> rfl

/-- Settles O51: memory is empty, nothing is in flight, and no callback is registered. -/
theorem invariantAtReset : Obligations.InvariantAtReset :=
  ⟨rfl, fun _ hi => absurd hi.symm (Option.some_ne_none _), fun _ => rfl, fun _ => rfl, fun h => absurd rfl h,
    fun _ hh => absurd hh List.not_mem_nil, List.nodup_nil⟩

/-! ## A step runs the decoded instruction -/

section EncodeLength

open Sys2Proof.Laws.EncodeLength

/-- An encoding has at least one byte and at most six, whatever the instruction (30_encoding.md R90). -/
theorem encodeLength_bounds (i : Instr) : Statement i := by
  cases i with
  | addRm16R16 | addR16Rm16 | orRm16R16 | orR16Rm16 | adcRm16R16 | adcR16Rm16 | sbbRm16R16 | sbbR16Rm16 | andRm16R16 | andR16Rm16
  | subRm16R16 | subR16Rm16 | xorRm16R16 | xorR16Rm16 | cmpRm16R16 | cmpR16Rm16 | testRm16R16 | xchgRm16R16 | movRm16R16
  | movR16Rm16 | movRm16Sreg | movSregRm16 | popRm16 | rolRm16One | rorRm16One | rclRm16One | rcrRm16One | shlRm16One
  | shrRm16One | sarRm16One | rolRm16Cl | rorRm16Cl | rclRm16Cl | rcrRm16Cl | shlRm16Cl | shrRm16Cl | sarRm16Cl | notRm16
  | mulRm16 | divRm16 | incRm16 | decRm16 | callRm16 | jmpRm16 | pushRm16 => exact of_tail (rm16_length _ _)
  | addRm8R8 | addR8Rm8 | orRm8R8 | orR8Rm8 | adcRm8R8 | adcR8Rm8 | sbbRm8R8 | sbbR8Rm8 | andRm8R8 | andR8Rm8 | subRm8R8
  | subR8Rm8 | xorRm8R8 | xorR8Rm8 | cmpRm8R8 | cmpR8Rm8 | testRm8R8 | xchgRm8R8 | movRm8R8 | movR8Rm8 | rolRm8One | rorRm8One
  | rclRm8One | rcrRm8One | shlRm8One | shrRm8One | sarRm8One | rolRm8Cl | rorRm8Cl | rclRm8Cl | rcrRm8Cl | shlRm8Cl | shrRm8Cl
  | sarRm8Cl | notRm8 | mulRm8 | divRm8 | incRm8 | decRm8 => exact of_tail (rm8_length _ _)
  | addRm8Ib | orRm8Ib | adcRm8Ib | sbbRm8Ib | andRm8Ib | subRm8Ib | xorRm8Ib | cmpRm8Ib | addRm8Ib82 | orRm8Ib82 | adcRm8Ib82
  | sbbRm8Ib82 | andRm8Ib82 | subRm8Ib82 | xorRm8Ib82 | cmpRm8Ib82 | movRm8Ib | testRm8Ib => exact of_tail_byte _ (rm8_length _ _)
  | addRm16Iw | orRm16Iw | adcRm16Iw | sbbRm16Iw | andRm16Iw | subRm16Iw | xorRm16Iw | cmpRm16Iw | movRm16Iw | testRm16Iw =>
    exact of_tail_word _ (rm16_length _ _)
  | addRm16Sext | orRm16Sext | adcRm16Sext | sbbRm16Sext | andRm16Sext | subRm16Sext | xorRm16Sext | cmpRm16Sext =>
    exact of_tail_byte _ (rm16_length _ _)
  | leaR16M | lesR16M | ldsR16M | callM16 | jmpM16 => exact of_tail (mem_length _ _)
  | _ => exact closed rfl

end EncodeLength

/-- The record at the end of an instruction, as the statement writes it. -/
theorem endInstr_eq_ite (s : State) : s.endInstr = if s.pending = none then { s with cur := InFlight.empty } else s := by
  by_cases h : s.pending = none
  · rw [endInstr_of_pending_none h, if_pos h]
  · rw [State.endInstr, if_pos (Option.isSome_iff_ne_none.mpr h), if_neg h]

/-- What a step makes of the outcome of its instruction. -/
theorem step_of_finishTick {s : State} {o : Result} (h : step s = finishTick o) :
    (∀ t, o = .next t → step s = .next (if t.pending = none then { t with cur := InFlight.empty } else t)) ∧
      (∀ r, o = .fault r → step s = .fault r) := by
  rw [h]
  refine ⟨?_, ?_⟩
  · rintro t rfl
    exact congrArg Host.Outcome.next (endInstr_eq_ite t)
  · rintro r rfl
    rfl

/-- The bytes at CS:IP are fetched as their prefixes and instruction (30_encoding.md R93). -/
theorem fetch_eq (s : State) (ps : List Instr) (i : Instr) (hps : ∀ p ∈ ps, p.isPrefix = true) (hi : i.isPrefix = false)
    (hwf : i.wf = true) (hlen : ps.length < 65536)
    (hbytes : ∀ k : Nat, k < (ps.flatMap encode ++ encode i).length →
      s.mem.read8 s.regs.CS (s.regs.IP + BitVec.ofNat 16 k) = (ps.flatMap encode ++ encode i).getD k 0) :
    s.fetch = some { prefixes := ps, instr := i, bytes := ps.flatMap encode ++ encode i } :=
  State.fetchFrom_spec s ps i segmentBytes 0 hps hi (fun rest => decodeAfterEncode i rest hwf) (encodeLength_bounds i).2 hlen
    fun j hj => by rw [Nat.zero_add]; exact hbytes j hj

/-- Settles O53: a running machine with no loop waiting fetches and executes; with one it goes on with the loop. -/
theorem stepRunsTheDecodedInstruction : Obligations.StepRunsTheDecodedInstruction := by
  refine ⟨?_, ?_⟩
  · rintro s u ps i _ hstopped rfl hrunning hpending hps hi hwf hlen rfl hbytes _ rfl
    refine step_of_finishTick ?_
    have hfetch := fetch_eq s.suspend.captureLast ps i hps hi hwf hlen hbytes
    have hrunOn : runOn s.suspend = tick s.suspend := by rw [runOn, hpending]
    rw [step_running hstopped hrunning, hrunOn]
    simp only [tick, hfetch]
    rfl
  · rintro s u i hstopped rfl hrunning hpending
    refine step_of_finishTick ?_
    have hrunOn : runOn s.suspend = resume i s.suspend := by rw [runOn, hpending]
    rw [step_running hstopped hrunning, hrunOn]
    rfl

end Sys2Proof.Machine
end

section
/-! PROOFS. The run state under the host's calls, and the two boot entries (60_exceptions.md R372 to R377; 70_reset_and_hazards.md R391 to R396). -/

namespace Sys2Proof.Machine

/-! ## What a batch can do -/

/-- A batch leaves Stopped only with a `Start()` in it. -/
theorem deliver_leaves_stopped (s : State) (hrun : s.run_state = .stopped) (hleft : s.deliver.run_state ≠ .stopped) :
    HostCall.start ∈ s.inbox.headD [] := by
  revert hleft
  rw [deliver_eq]
  refine hostCalls_induct (P := fun t => t.run_state ≠ .stopped → HostCall.start ∈ s.inbox.headD []) _ (fun t ht c hc hleft => ?_) _
    fun h => absurd hrun h
  rcases (hostCall_run t c).1 with hsame | ⟨-, -, rfl, -⟩
  · exact ht (hsame ▸ hleft)
  · exact hc

/-- Only a boot entry loads an image. -/
theorem hostCall_booted_eq (s : State) (c : HostCall) (hc : (∀ b, c ≠ .bootFloppy b) ∧ ∀ g b, c ≠ .bootCom g b) :
    (s.hostCall c).booted = s.booted := by
  obtain ⟨hfloppy, hcom⟩ := hc
  cases c with
  | bootFloppy image => exact absurd rfl (hfloppy image)
  | bootCom g image => exact absurd rfl (hcom g image)
  | setPaused b => cases b <;> (unfold State.hostCall; dsimp only; split <;> rfl)
  | start => unfold State.hostCall; dsimp only; split <;> rfl
  | stop | registerCallback | unregisterCallback _ => rfl

/-- A batch without boot entries moves no data, and starts no run of a machine without an image. -/
theorem deliver_without_boot (s : State) (hrun : s.run_state = .stopped)
    (hcalls : ∀ c ∈ s.inbox.headD [], (∀ b, c ≠ .bootFloppy b) ∧ ∀ g b, c ≠ .bootCom g b) :
    s.deliver.regs = s.regs ∧ s.deliver.flags = s.flags ∧ s.deliver.mem = s.mem ∧ s.deliver.booted = s.booted ∧
      (s.booted = false → s.deliver.run_state = .stopped) := by
  rw [deliver_eq]
  refine hostCalls_induct (P := fun t => t.regs = s.regs ∧ t.flags = s.flags ∧ t.mem = s.mem ∧ t.booted = s.booted ∧
    (s.booted = false → t.run_state = .stopped)) _ ?_ _ ⟨rfl, rfl, rfl, rfl, fun _ => hrun⟩
  intro t ⟨hregs, hflags, hmem, hbooted, hstopped⟩ c hc
  obtain ⟨hregs', hflags', hmem', -, -⟩ := hostCall_data t c (.inr (hcalls c hc))
  refine ⟨hregs'.trans hregs, hflags'.trans hflags, hmem'.trans hmem, (hostCall_booted_eq t c (hcalls c hc)).trans hbooted, fun hnone => ?_⟩
  rcases (hostCall_run t c).1 with hsame | ⟨-, hb, -, -⟩
  · exact hsame.trans (hstopped hnone)
  · exact absurd (hb.symm.trans (hbooted.trans hnone)) (by decide)

/-- A call that does not end a pause keeps it. -/
theorem hostCall_keeps_pause (s : State) (c : HostCall) (hstop : c ≠ .stop) (hresume : c ≠ .setPaused false)
    (h : s.run_state = .paused ∧ s.requested_state = .paused) :
    (s.hostCall c).run_state = .paused ∧ (s.hostCall c).requested_state = .paused := by
  obtain ⟨hrun, hreq⟩ := h
  have hnotStopped : s.run_state ≠ .stopped := by rw [hrun]; decide
  cases c with
  | stop => exact absurd rfl hstop
  | start => rw [State.hostCall, if_neg fun e => hnotStopped e.1]; exact ⟨hrun, hreq⟩
  | setPaused b =>
    cases b with
    | false => exact absurd rfl hresume
    | true => rw [State.hostCall, if_neg (by rw [hreq]; decide)]; exact ⟨hrun, hreq⟩
  | bootFloppy image => rw [State.hostCall, if_neg hnotStopped]; exact ⟨hrun, hreq⟩
  | bootCom g image => rw [State.hostCall, if_neg hnotStopped]; exact ⟨hrun, hreq⟩
  | registerCallback | unregisterCallback _ => exact ⟨hrun, hreq⟩

/-- A pause that no call ends. -/
theorem suspend_keeps_pause (s : State) (hrun : s.run_state = .paused) (hreq : s.requested_state = .paused)
    (hcalls : ∀ c ∈ s.inbox.headD [], c ≠ .stop ∧ c ≠ .setPaused false) : s.suspend.run_state = .paused := by
  obtain ⟨hrun', hreq'⟩ : s.deliver.run_state = .paused ∧ s.deliver.requested_state = .paused := by
    rw [deliver_eq]
    exact hostCalls_induct (P := fun t => t.run_state = .paused ∧ t.requested_state = .paused) _
      (fun t ht c hc => hostCall_keeps_pause t c (hcalls c hc).1 (hcalls c hc).2 ht) _ ⟨hrun, hreq⟩
  simp only [State.suspend, State.sample, hrun', hreq']

/-! ## Single calls -/

/-- The batch at the head of the inbox, made on the state with the batch taken. -/
theorem deliver_cons {s : State} {calls : List HostCall} {rest : List (List HostCall)} (hinbox : s.inbox = calls :: rest) :
    s.deliver = ({ s with inbox := rest } : State).hostCalls calls := by
  rw [deliver_eq, hinbox]; rfl

/-- A requested end, seen while the machine does not rest in Stopped, ends the run. -/
theorem sample_stop (s : State) (hrun : s.run_state ≠ .stopped) (hreq : s.requested_state = .stopped) : s.sample = s.endRun := by
  unfold State.sample
  cases h : s.run_state with
  | stopped => exact absurd h hrun
  | running | paused => rw [hreq]

/-- A `Stop()`, alone or before a `SetPaused`, is what the suspension point sees (60_exceptions.md R373). -/
theorem suspend_stop_calls (s : State) (calls : List HostCall) (rest : List (List HostCall)) (hrun : s.run_state ≠ .stopped)
    (hcalls : calls = [.stop] ∨ ∃ b, calls = [.stop, .setPaused b]) (hinbox : s.inbox = calls :: rest) :
    s.suspend = ({ s with inbox := rest, requested_state := .stopped } : State).endRun := by
  have hdeliver : s.deliver = { s with inbox := rest, requested_state := .stopped } := by
    rw [deliver_cons hinbox]
    rcases hcalls with rfl | ⟨b, rfl⟩
    · rfl
    · cases b <;> rfl
  rw [State.suspend, hdeliver]
  exact sample_stop _ hrun rfl

/-- Two states in which the suspension point leaves the same running machine have the same step. -/
theorem step_eq_of_suspend {s u : State} (hs : s.run_state ≠ .stopped) (hu : u.run_state ≠ .stopped) (h : s.suspend = u.suspend)
    (hrun : u.suspend.run_state = .running) : step s = step u := by
  rw [step_running hs (h ▸ hrun), step_running hu hrun, h]

/-- Settles O58: each clause is what its calls do to the state, and what the suspension point makes of it. -/
theorem runStateFollowsTheHost : Obligations.RunStateFollowsTheHost := by
  refine ⟨fun s hrun => ?_, fun s hrun hreq hcalls => ?_, fun s rest hrun hbooted hinbox => ?_, fun s rest hrun hbooted hinbox => ?_,
    fun s rest hrun => ⟨fun hinbox => ?_, fun calls hcalls hinbox => ?_⟩, fun s rest hrun hreq hinbox => ?_,
    fun s rest hrun hreq hinbox => ?_, fun s b rest hrun hreq hinbox => ?_, fun s calls rest hinbox => ?_,
    fun s h calls rest hinbox => ?_⟩
  · exact ⟨_, step_stopped hrun, deliver_leaves_stopped s hrun, deliver_without_boot s hrun⟩
  · have hnotStopped : s.run_state ≠ .stopped := by rw [hrun]; decide
    have hpaused := suspend_keeps_pause s hrun hreq hcalls
    exact ⟨_, step_resting hnotStopped (by rw [hpaused]; decide), hpaused, suspend_data s hnotStopped⟩
  · rw [step_stopped hrun, deliver_cons hinbox]
    exact congrArg Host.Outcome.next (if_pos ⟨hrun, hbooted⟩)
  · rw [step_stopped hrun, deliver_cons hinbox]
    exact congrArg Host.Outcome.next (if_neg fun e => absurd (e.2.symm.trans hbooted) (by decide))
  · refine step_of_deliver rfl ?_
    rw [deliver_cons hinbox]
    exact if_neg fun e => hrun e.1
  · have hsuspend := suspend_stop_calls s calls rest hrun hcalls hinbox
    have hended : s.suspend.run_state = .stopped := by rw [hsuspend]; rfl
    rw [step_resting hrun (by rw [hended]; decide), hsuspend]
    rfl
  · have hsuspend := suspend_pause s rest hrun hreq hinbox
    have hpaused : s.suspend.run_state = .paused := by rw [hsuspend]; rfl
    rw [step_resting (by rw [hrun]; decide) (by rw [hpaused]; decide), hsuspend]
    rfl
  · exact step_eq_of_suspend (by rw [hrun]; decide) (show RunState.running ≠ .stopped by decide) (suspend_unpause s rest hrun hreq hinbox) rfl
  · rw [step_stopped hrun, deliver_cons hinbox]
    cases b
    · exact congrArg Host.Outcome.next (if_neg (by rw [hreq]; decide))
    · exact congrArg Host.Outcome.next (if_neg (by rw [hreq]; decide))
  · refine step_of_deliver rfl ?_
    rw [deliver_cons hinbox]
    rfl
  · refine step_of_deliver rfl ?_
    have hfilter : (fun k => k != h) = fun k => decide (k ≠ h) := funext fun k => by rw [bne, beq_eq_decide, decide_not]
    rw [deliver_cons hinbox, State.hostCalls, State.hostCall, hfilter]
    rfl

/-! ## The boot entries -/

/-- The step of a boot entry while Stopped. -/
theorem step_single {s : State} {c : HostCall} {rest : List (List HostCall)} (hrun : s.run_state = .stopped)
    (hinbox : s.inbox = [c] :: rest) : step s = .next (({ s with inbox := rest } : State).hostCall c) := by
  rw [step_stopped hrun, deliver_cons hinbox]
  rfl

/-- `BootCOM` while not Stopped does nothing (60_exceptions.md R377). -/
theorem hostCall_bootCom_running (s : State) (seg : Word) (image : Option (List Byte)) (hrun : s.run_state ≠ .stopped) :
    s.hostCall (.bootCom seg image) = s := if_neg hrun

/-- `BootFloppy` while not Stopped does nothing (60_exceptions.md R377). -/
theorem hostCall_bootFloppy_running (s : State) (image : Option (List Byte)) (hrun : s.run_state ≠ .stopped) :
    s.hostCall (.bootFloppy image) = s := if_neg hrun

/-- The memory of a booted COM image (70_reset_and_hazards.md R394). -/
def comMemory (seg : Word) (bs : List Byte) : Memory := (Memory.writeBytes [] seg 0x0100 bs).write16 seg 0xFFFE 0

/-- The image lies at 0100, up to the stack word. -/
theorem read8_comMemory (seg : Word) (bs : List Byte) (hlen : bs.length ≤ 0xFF00) (k : Nat) (hk : k < bs.length)
    (hbelow : 0x0100 + k < 0xFFFE) : (comMemory seg bs).read8 seg (BitVec.ofNat 16 (0x0100 + k)) = bs.getD k 0 := by
  have hoff : ∀ w : Word, 0xFFFE ≤ w.toNat → BitVec.ofNat 16 (0x0100 + k) ≠ w := by
    intro w hw e
    have e := congrArg BitVec.toNat e
    rw [BitVec.toNat_ofNat] at e
    omega
  have hstack : (comMemory seg bs).read8 seg (BitVec.ofNat 16 (0x0100 + k)) =
      (Memory.writeBytes [] seg 0x0100 bs).read8 seg (BitVec.ofNat 16 (0x0100 + k)) := by
    refine (Memory.byteAt_setWordAt _ _ _ _ (Memory.wf_writeBytes [] seg 0x0100 bs rfl)).trans ?_
    rw [if_neg (phys_ne_succ seg _ _ (hoff _ (by decide))),
      if_neg fun e => hoff _ (by decide) (phys_inj seg _ _ e)]
    rfl
  rw [hstack, BitVec.ofNat_add]
  exact Memory.read8_writeBytes [] seg 0x0100 bs rfl k hk (by omega)

/-- All else is zero, the stack word among it. -/
theorem byteAt_comMemory_ne (seg : Word) (bs : List Byte) (a : Phys)
    (ha : ∀ k : Nat, k < bs.length → a ≠ phys seg (BitVec.ofNat 16 (0x0100 + k))) : (comMemory seg bs).byteAt a = 0 := by
  refine (Memory.byteAt_setWordAt _ _ _ _ (Memory.wf_writeBytes [] seg 0x0100 bs rfl)).trans ?_
  split
  · rfl
  · split
    · rfl
    · refine Memory.byteAt_writeBytes_ne [] seg 0x0100 bs rfl a fun k hk => ?_
      have := ha k hk
      rwa [BitVec.ofNat_add] at this

/-- Settles O59: the entry is refused with a message, loads its image into a machine as at power-on, or does nothing. -/
theorem bootComLoadsTheImage : Obligations.BootComLoadsTheImage := by
  intro s seg image rest hinbox
  refine ⟨fun hrun himage => ?_, fun bs hrun himage hlen => ?_, fun hrun => ?_⟩
  · rw [step_single hrun hinbox, State.hostCall, if_pos hrun]
    rcases himage with rfl | ⟨bs, rfl, hlen⟩
    · rfl
    · exact congrArg Host.Outcome.next (if_neg (Nat.not_le.mpr hlen))
  · subst himage
    have hload : ({ s with inbox := rest } : State).hostCall (.bootCom seg (some bs)) =
        { ({ s with inbox := rest } : State).powerOn with
          mem := comMemory seg bs
          regs := { Regs.zero with CS := seg, DS := seg, ES := seg, SS := seg, IP := 0x0100, SP := 0xFFFE } } := by
      rw [State.hostCall, if_pos hrun]
      exact if_pos hlen
    refine ⟨_, step_single hrun hinbox, ?_⟩
    rw [hload]
    exact ⟨rfl, rfl, rfl, rfl, hrun, rfl, rfl, rfl, read8_comMemory seg bs hlen,
      Memory.wordAt_setWordAt_same _ _ _ (Memory.wf_writeBytes [] seg 0x0100 bs rfl), byteAt_comMemory_ne seg bs⟩
  · refine step_of_deliver rfl ?_
    rw [deliver_cons hinbox]
    exact hostCall_bootCom_running { s with inbox := rest } seg image hrun

/-- An image that the entry refuses (70_reset_and_hazards.md R392). -/
theorem not_bootable {bs : List Byte} (h : bs.length < 512 ∨ bs.getD 0x1FE 0 ≠ 0x55 ∨ bs.getD 0x1FF 0 ≠ 0xAA) : ¬bootable bs = true := by
  unfold bootable
  rw [Bool.and_eq_true, Bool.and_eq_true, decide_eq_true_iff, beq_iff_eq, beq_iff_eq]
  rintro ⟨⟨hlen, h55⟩, hAA⟩
  rcases h with h | h | h
  · omega
  · exact h h55
  · exact h hAA

/-- An image that can be booted (70_reset_and_hazards.md R392). -/
theorem bootable_of {bs : List Byte} (hlen : 512 ≤ bs.length) (h55 : bs.getD 0x1FE 0 = 0x55) (hAA : bs.getD 0x1FF 0 = 0xAA) :
    bootable bs = true := by
  unfold bootable
  rw [decide_eq_true hlen, h55, hAA]
  rfl

/-- The memory of a booted floppy (70_reset_and_hazards.md R392): sector 0 at 7C00, zeros elsewhere. -/
theorem byteAt_sector (bs : List Byte) (hlen : 512 ≤ bs.length) (a : Phys) :
    (Memory.writeBytes [] 0 0x7C00 (bs.take 512)).byteAt a =
      if 0x7C00 ≤ a.toNat ∧ a.toNat ≤ 0x7DFF then bs.getD (a.toNat - 0x7C00) 0 else 0 := by
  have htake : (bs.take 512).length = 512 := by rw [List.length_take]; omega
  have hplace : ∀ k : Nat, k < 512 → (phys 0 (0x7C00 + BitVec.ofNat 16 k)).toNat = 0x7C00 + k := by
    intro k hk
    rw [toNat_phys, BitVec.toNat_add, BitVec.toNat_ofNat, show (0 : Word).toNat = 0 from rfl, show (0x7C00 : Word).toNat = 0x7C00 from rfl]
    omega
  split
  next h =>
    have hk : a.toNat - 0x7C00 < 512 := by omega
    have ha : a = phys 0 (0x7C00 + BitVec.ofNat 16 (a.toNat - 0x7C00)) :=
      BitVec.eq_of_toNat_eq (by rw [hplace _ hk]; omega)
    have hread := Memory.read8_writeBytes [] 0 0x7C00 (bs.take 512) rfl (a.toNat - 0x7C00) (by omega) (by omega)
    conv_lhs => rw [ha]
    refine hread.trans ?_
    rw [List.getD_eq_getElem?_getD, List.getD_eq_getElem?_getD, List.getElem?_take_of_lt hk]
  next h =>
    refine Memory.byteAt_writeBytes_ne [] 0 0x7C00 (bs.take 512) rfl a fun k hk e => h ?_
    rw [e, hplace k (by omega)]
    omega

/-- Settles O60: the entry is refused with a message, loads sector 0 into a machine as at power-on, or does nothing. -/
theorem bootFloppyLoadsTheSector : Obligations.BootFloppyLoadsTheSector := by
  intro s image rest hinbox
  refine ⟨fun hrun himage => ?_, fun bs hrun himage hlen h55 hAA => ?_, fun hrun => ?_⟩
  · rw [step_single hrun hinbox, State.hostCall, if_pos hrun]
    rcases himage with rfl | ⟨bs, rfl, hbad⟩
    · rfl
    · exact congrArg Host.Outcome.next (if_neg (not_bootable hbad))
  · subst himage
    have hload : ({ s with inbox := rest } : State).hostCall (.bootFloppy (some bs)) =
        ({ ({ s with inbox := rest } : State).powerOn with mem := Memory.writeBytes [] 0 0x7C00 (bs.take 512) } : State).setCSIP
          0 0x7C00 := by
      rw [State.hostCall, if_pos hrun]
      exact if_pos (bootable_of hlen h55 hAA)
    refine ⟨_, step_single hrun hinbox, ?_⟩
    rw [hload]
    exact ⟨rfl, rfl, rfl, rfl, hrun, rfl, rfl, rfl, byteAt_sector bs hlen⟩
  · refine step_of_deliver rfl ?_
    rw [deliver_cons hinbox]
    exact hostCall_bootFloppy_running { s with inbox := rest } image hrun

end Sys2Proof.Machine
end

section
/-! PROOFS. Sample words, and every opcode byte as a prefix, an unimplemented opcode or an implemented one (30_encoding.md R90 to R122). -/

namespace Sys2Proof

/-- Settles O3: the decoder reads each word as its table row says. -/
theorem sampleWordsDecode : Obligations.SampleWordsDecode :=
  ⟨rfl, rfl, rfl, rfl, rfl, rfl, rfl, rfl, rfl, rfl, rfl, rfl, rfl, rfl, rfl⟩

/-- Whether an opcode byte, with a memory operand and zeros behind it, decodes to an instruction that runs. -/
def runsWithZeros (b : Byte) : Bool :=
  match decode [b, 0, 0, 0, 0, 0] with
  | .ok i _ => !i.isPrefix && i.decodeError?.isNone
  | .truncated => false

/-- What `runsWithZeros` says of the decoder. -/
theorem exists_of_runsWithZeros {b : Byte} (h : runsWithZeros b = true) :
    ∃ i rest, decode [b, 0, 0, 0, 0, 0] = .ok i rest ∧ i.isPrefix = false ∧ i.decodeError? = none := by
  unfold runsWithZeros at h
  split at h
  next i rest hdecode =>
    rw [Bool.and_eq_true, Bool.not_eq_true', Option.isNone_iff_eq_none] at h
    exact ⟨i, rest, hdecode, h⟩
  next => exact absurd h Bool.false_ne_true

/-- A refused form decodes from its own bytes, by the round trip. -/
theorem decode_refused {i : Instr} {bytes : List Byte} (hwf : i.wf = true) (hrefused : i.decodeError? = some .instruction)
    (henc : encode i = bytes) (bs : List Byte) : ∃ i, decode (bytes ++ bs) = .ok i bs ∧ i.decodeError? = some .instruction :=
  ⟨i, henc ▸ decodeAfterEncode i bs hwf, hrefused⟩

/-- A ModR/M byte with mod = 11 by its other fields. -/
theorem modRM_of_mod3 {m : Byte} (hmod : m.extractLsb' 6 2 = 3) : modRM 3 (regField m) (rmField m) = m := by
  rw [← hmod]; exact modRM_fields m

/-- A ModR/M byte whose `reg` field is 4 to 7 by its fields. -/
theorem modRM_of_reg4 : ∀ m : Byte, 4 ≤ (m.extractLsb' 3 3).toNat →
    modRM (modField m) (1#1 ++ m.extractLsb' 3 2) (rmField m) = m := by decide

/-- Settles O4: the prefixes and the unimplemented opcodes take one byte each; the other opcodes are few enough to look at; the refused forms
are the encodings of the rows that refuse them. -/
theorem refusedEncodings : Obligations.RefusedEncodings := by
  refine ⟨fun b bs hb => ?_, fun b bs hb => ?_, fun b hprefix hunimpl => ?_, fun op m bs hop hmod => ?_, fun m bs hmod hreg => ?_,
    fun op m bs hop hreg => ?_⟩
  · unfold prefixBytes at hb
    fin_cases hb <;> exact ⟨_, rfl, rfl⟩
  · unfold unimplementedBytes at hb
    fin_cases hb <;> exact ⟨_, rfl, rfl⟩
  · have hall : ∀ b : Byte, b ∉ prefixBytes → b ∉ unimplementedBytes → runsWithZeros b = true := by decide
    exact exists_of_runsWithZeros (hall b hprefix hunimpl)
  · have hm := modRM_of_mod3 hmod
    fin_cases hop
    · exact decode_refused (i := .unimpl8DMod3 (regField m) (rmField m)) rfl rfl
        (congrArg (fun b => [(0x8D : Byte), b]) hm) bs
    · exact decode_refused (i := .unimplC4Mod3 (regField m) (rmField m)) rfl rfl
        (congrArg (fun b => [(0xC4 : Byte), b]) hm) bs
    · exact decode_refused (i := .unimplC5Mod3 (regField m) (rmField m)) rfl rfl
        (congrArg (fun b => [(0xC5 : Byte), b]) hm) bs
  · have hm := modRM_of_mod3 hmod
    rcases hreg with h | h
    · rw [regField, h] at hm
      exact decode_refused (i := .unimplFFSub3Mod3 (rmField m)) rfl rfl
        (congrArg (fun b => [(0xFF : Byte), b]) hm) bs
    · rw [regField, h] at hm
      exact decode_refused (i := .unimplFFSub5Mod3 (rmField m)) rfl rfl
        (congrArg (fun b => [(0xFF : Byte), b]) hm) bs
  · have hm := modRM_of_reg4 m hreg
    fin_cases hop
    · exact decode_refused (i := .unimpl8CReg4to7 (modField m) (m.extractLsb' 3 2) (rmField m)) rfl rfl
        (congrArg (fun b => [(0x8C : Byte), b]) hm) bs
    · exact decode_refused (i := .unimpl8EReg4to7 (modField m) (m.extractLsb' 3 2) (rmField m)) rfl rfl
        (congrArg (fun b => [(0x8E : Byte), b]) hm) bs

end Sys2Proof
end

section
/-! PROOFS. The four answers of the Interrupt Layer, and what a conforming layer keeps (60_exceptions.md R340, R349, R350). -/

namespace Sys2Proof.Machine

/-! ## The four answers -/

/-- Settles O43: each answer is one equation of the dispatch, and the state the layer was called in keeps what the statement names. -/
theorem interruptsByAnswer : Obligations.InterruptsByAnswer := by
  rintro s i vector a hi rfl
  have hexec : exec i s = s.interrupt vector := by rcases hi with rfl | ⟨rfl, rfl⟩ <;> rfl
  obtain ⟨hCS, hIP, hrun, -, hcallbacks, -, -, -, -, -, -, hregs, hflags, hmem⟩ := afterCall_keeps s vector
  rw [hexec]
  refine ⟨fun v hv => ?_, fun hend => ?_, fun e he => ?_⟩
  · exact ⟨_, interrupt_handled s vector v hv, rfl, rfl, rfl, hrun, hCS, hIP⟩
  · refine ⟨_, interrupt_terminate s vector hend, hregs, hflags, hmem, rfl, rfl, ?_⟩
    exact congrArg (fun handles => some (HostEvent.stateChanged handles .stopped)) hcallbacks
  · rcases he with ⟨hnot, rfl⟩ | ⟨msg, hio, rfl⟩
    · exact ⟨_, interrupt_notHandled s vector hnot, rfl, rfl, rfl, rfl, rfl, rfl⟩
    · exact ⟨_, interrupt_hostIOError s vector msg hio, rfl, rfl, rfl, rfl, rfl, rfl⟩

/-! ## What a service keeps -/

/-- From `v` to `u` a service changes AX, CX, DX, CF, ZF and bytes of `buffer` at most (60_exceptions.md R349). -/
structure KeepsBut (buffer : Phys → Prop) (v u : View) : Prop where
  regs : u.regs = { v.regs with AX := u.regs.AX, CX := u.regs.CX, DX := u.regs.DX }
  flags : u.flags = { v.flags with CF := u.flags.CF, ZF := u.flags.ZF }
  mem : v.mem.wf = true → ∀ p : Phys, ¬buffer p → u.mem.byteAt p = v.mem.byteAt p

/-- A larger buffer may be named. -/
theorem KeepsBut.mono {buffer buffer' : Phys → Prop} {v u : View} (h : KeepsBut buffer v u) (hb : ∀ p, buffer p → buffer' p) :
    KeepsBut buffer' v u := ⟨h.regs, h.flags, fun hwf p hp => h.mem hwf p fun e => hp (hb p e)⟩

/-- A service that involves a backend, when it is handled, gives the view it was to give. -/
theorem backed_handled {w : World} {calls : List BackendCall} {x u : View} (h : (Served.backed w calls x).answer = .handled u) : u = x := by
  unfold Served.backed at h
  split at h
  · cases h
  · exact (Answer.handled.inj h).symm

/-- A service that reads a string, when it is handled, has read one. -/
theorem withString_handled {w : World} {sent : List BackendCall} {str : Option (List Byte)} {k : List Byte → Served} {u : View}
    (h : (withString w sent str k).answer = .handled u) : ∃ bs, (k bs).answer = .handled u := by
  unfold withString at h
  split at h
  · exact ⟨_, h⟩
  · cases h
  · cases h

/-- Writes into the text buffer stay inside it (20_memory.md R76). -/
theorem byteAt_textBuffer (v : View) (w : World) (hwf : v.mem.wf = true) (p : Phys) (hp : ¬(0xB8000 ≤ p.toNat ∧ p.toNat ≤ 0xB8F9F)) :
    (v.textBuffer w).mem.byteAt p = v.mem.byteAt p := by
  refine Memory.byteAt_writeAll_ne _ _ hwf p fun x hx e => hp ?_
  obtain ⟨y, -, rfl⟩ := List.mem_map.mp hx
  have hlt : y.1 % 4000 < 4000 := Nat.mod_lt _ (by decide)
  have hnat : p.toNat = (0xB8000 + y.1 % 4000) % 2 ^ 20 := congrArg BitVec.toNat e
  omega

/-- What the video services keep. -/
theorem serveVideo_keeps {w : World} {v u : View} (h : (serveVideo w v).answer = .handled u) :
    KeepsBut (fun p => 0xB8000 ≤ p.toNat ∧ p.toNat ≤ 0xB8F9F) v u := by
  have hplain : ∀ {calls : List BackendCall}, (Served.backed w calls (v.textBuffer w)).answer = .handled u →
      KeepsBut (fun p => 0xB8000 ≤ p.toNat ∧ p.toNat ≤ 0xB8F9F) v u := by
    intro calls h
    obtain rfl := backed_handled h
    exact ⟨rfl, rfl, byteAt_textBuffer v w⟩
  unfold serveVideo at h
  dsimp only at h
  split at h
  case h_3 =>
    obtain rfl := backed_handled h
    exact ⟨rfl, rfl, byteAt_textBuffer v w⟩
  case h_8 => cases h
  all_goals exact hplain h

/-- What the disk service keeps. -/
theorem serveDisk_keeps {w : World} {draw : Nat} {v u : View} (h : (serveDisk w draw v).answer = .handled u) :
    KeepsBut (fun p => ∃ k : Nat, k < (v.regs.get8 .al).toNat * 512 ∧ p = phys v.regs.ES (v.regs.BX + BitVec.ofNat 16 k)) v u := by
  have hwrite : ∀ bs : List Byte, bs.length ≤ (v.regs.get8 .al).toNat * 512 → v.mem.wf = true → ∀ p : Phys,
      (¬∃ k : Nat, k < (v.regs.get8 .al).toNat * 512 ∧ p = phys v.regs.ES (v.regs.BX + BitVec.ofNat 16 k)) →
      (v.mem.writeBytes v.regs.ES v.regs.BX bs).byteAt p = v.mem.byteAt p :=
    fun bs hlen hwf p hp => Memory.byteAt_writeBytes_ne _ _ _ _ hwf p fun k hk e => hp ⟨k, by omega, e⟩
  unfold serveDisk at h
  dsimp only at h
  split at h
  · split at h
    · obtain rfl := backed_handled h
      exact ⟨rfl, rfl, hwrite _ (by simp [dataBytes])⟩
    · obtain rfl := backed_handled h
      exact ⟨rfl, rfl, hwrite _ (by simp)⟩
  · cases h

/-- What the keyboard services keep. -/
theorem serveKeyboard_keeps {w : World} {v u : View} (h : (serveKeyboard w v).answer = .handled u) : KeepsBut (fun _ => False) v u := by
  unfold serveKeyboard at h
  split at h
  · split at h
    · cases h
    · obtain rfl := backed_handled h
      exact ⟨rfl, rfl, fun _ _ _ => rfl⟩
  · obtain rfl := backed_handled h
    split <;> exact ⟨rfl, rfl, fun _ _ _ => rfl⟩
  · cases h

/-- What the time service keeps. -/
theorem serveTime_keeps {w : World} {v u : View} (h : (serveTime w v).answer = .handled u) : KeepsBut (fun _ => False) v u := by
  unfold serveTime at h
  split at h
  · obtain rfl := Answer.handled.inj h
    exact ⟨rfl, rfl, fun _ _ _ => rfl⟩
  · cases h

/-- What the MS-DOS services keep: only the file read stores, and only in the buffer it names. -/
theorem serveDos21_keeps {w : World} {v u : View} (h : (serveDos21 w v).answer = .handled u) :
    KeepsBut (fun p => v.regs.get8 .ah = 0x3F ∧ ∃ k : Nat, k < v.regs.CX.toNat ∧ p = phys v.regs.DS (v.regs.DX + BitVec.ofNat 16 k)) v u := by
  unfold serveDos21 at h
  dsimp only at h
  split at h
  case h_6 hread =>
    obtain rfl := backed_handled h
    refine ⟨rfl, rfl, fun hwf p hp => Memory.byteAt_writeBytes_ne _ _ _ _ hwf p fun k hk e => hp ⟨BitVec.eq_of_toNat_eq hread, k, ?_, e⟩⟩
    rw [List.length_take] at hk
    omega
  case h_1 | h_7 =>
    obtain rfl := backed_handled h
    exact ⟨rfl, rfl, fun _ _ _ => rfl⟩
  case h_2 =>
    obtain ⟨bs, h⟩ := withString_handled h
    obtain rfl := backed_handled h
    exact ⟨rfl, rfl, fun _ _ _ => rfl⟩
  case h_5 =>
    obtain ⟨bs, h⟩ := withString_handled h
    obtain rfl := backed_handled h
    split <;> exact ⟨rfl, rfl, fun _ _ _ => rfl⟩
  case h_3 | h_4 =>
    obtain rfl := Answer.handled.inj h
    exact ⟨rfl, rfl, fun _ _ _ => rfl⟩
  case h_8 | h_9 => cases h

/-- What the BIOS keeps. -/
theorem serveBios_keeps {vector : Byte} {w : World} {draw : Nat} {v u : View} (h : (serveBios vector w draw v).answer = .handled u) :
    KeepsBut (InServiceBuffer vector v) v u := by
  unfold serveBios at h
  split at h
  next hv => exact (serveVideo_keeps h).mono fun _ hp => .inl ⟨BitVec.eq_of_toNat_eq hv, hp⟩
  next hv => exact (serveDisk_keeps h).mono fun _ hp => .inr (.inl ⟨BitVec.eq_of_toNat_eq hv, hp⟩)
  next => exact (serveKeyboard_keeps h).mono fun _ => False.elim
  next => exact (serveTime_keeps h).mono fun _ => False.elim
  next => cases h

/-- What MS-DOS keeps. -/
theorem serveDos_keeps {vector : Byte} {w : World} {v u : View} (h : (serveDos vector w v).answer = .handled u) :
    KeepsBut (InServiceBuffer vector v) v u := by
  unfold serveDos at h
  split at h
  next hv => exact (serveDos21_keeps h).mono fun _ hp => .inr (.inr ⟨BitVec.eq_of_toNat_eq hv, hp⟩)
  next => cases h

/-! ## Which calls a layer claims -/

/-- A pair is listed when its numbers are. -/
theorem mem_servedPairs_of_toNat {vector ah : Byte} {n : Nat} (h : ah.toNat = n) (hlisted : (vector, BitVec.ofNat 8 n) ∈ servedPairs) :
    (vector, ah) ∈ servedPairs := by
  rwa [← h, BitVec.ofNat_toNat, BitVec.setWidth_eq] at hlisted

/-- The video services claim the listed subfunctions only. -/
theorem serveVideo_unclaimed (w : World) (v : View) (h : ((0x10 : Byte), v.regs.get8 .ah) ∉ servedPairs) : serveVideo w v = .unclaimed := by
  unfold serveVideo
  dsimp only
  split
  case h_8 => rfl
  all_goals exact absurd (mem_servedPairs_of_toNat (by assumption) (by decide)) h

/-- The disk service claims the listed subfunction only. -/
theorem serveDisk_unclaimed (w : World) (draw : Nat) (v : View) (h : ((0x13 : Byte), v.regs.get8 .ah) ∉ servedPairs) :
    serveDisk w draw v = .unclaimed := by
  unfold serveDisk
  dsimp only
  split
  next hah => exact absurd (mem_servedPairs_of_toNat hah (by decide)) h
  next => rfl

/-- The keyboard services claim the listed subfunctions only. -/
theorem serveKeyboard_unclaimed (w : World) (v : View) (h : ((0x16 : Byte), v.regs.get8 .ah) ∉ servedPairs) :
    serveKeyboard w v = .unclaimed := by
  unfold serveKeyboard
  split
  next hah => exact absurd (mem_servedPairs_of_toNat hah (by decide)) h
  next hah => exact absurd (mem_servedPairs_of_toNat hah (by decide)) h
  next => rfl

/-- The time service claims the listed subfunction only. -/
theorem serveTime_unclaimed (w : World) (v : View) (h : ((0x1A : Byte), v.regs.get8 .ah) ∉ servedPairs) : serveTime w v = .unclaimed := by
  unfold serveTime
  split
  next hah => exact absurd (mem_servedPairs_of_toNat hah (by decide)) h
  next => rfl

/-- The MS-DOS services claim the listed subfunctions only. -/
theorem serveDos21_unclaimed (w : World) (v : View) (h : ((0x21 : Byte), v.regs.get8 .ah) ∉ servedPairs) : serveDos21 w v = .unclaimed := by
  unfold serveDos21
  dsimp only
  split
  case h_9 => rfl
  all_goals exact absurd (mem_servedPairs_of_toNat (by assumption) (by decide)) h

/-- The BIOS claims listed pairs only. -/
theorem serveBios_unclaimed (vector : Byte) (w : World) (draw : Nat) (v : View) (h : (vector, v.regs.get8 .ah) ∉ servedPairs) :
    serveBios vector w draw v = .unclaimed := by
  unfold serveBios
  split
  next hv => obtain rfl : vector = 0x10 := BitVec.eq_of_toNat_eq hv; exact serveVideo_unclaimed w v h
  next hv => obtain rfl : vector = 0x13 := BitVec.eq_of_toNat_eq hv; exact serveDisk_unclaimed w draw v h
  next hv => obtain rfl : vector = 0x16 := BitVec.eq_of_toNat_eq hv; exact serveKeyboard_unclaimed w v h
  next hv => obtain rfl : vector = 0x1A := BitVec.eq_of_toNat_eq hv; exact serveTime_unclaimed w v h
  next => rfl

/-- MS-DOS claims listed pairs only. -/
theorem serveDos_unclaimed (vector : Byte) (w : World) (v : View) (h : (vector, v.regs.get8 .ah) ∉ servedPairs) :
    serveDos vector w v = .unclaimed := by
  unfold serveDos
  split
  next hv => obtain rfl : vector = 0x21 := BitVec.eq_of_toNat_eq hv; exact serveDos21_unclaimed w v h
  next => rfl

/-- A conforming layer answers as the BIOS does, or, when that claims nothing and MS-DOS is enabled, as MS-DOS does. -/
theorem conformingLayer_cases (vector : Byte) (msdos : Bool) (w : World) (draw : Nat) (v : View) :
    conformingLayer vector msdos w draw v = serveBios vector w draw v ∨
      ((serveBios vector w draw v).answer = .notHandled ∧ msdos = true ∧ conformingLayer vector msdos w draw v = serveDos vector w v) := by
  unfold conformingLayer
  dsimp only
  split
  next hnot =>
    cases msdos
    · exact .inl rfl
    · exact .inr ⟨hnot, rfl, rfl⟩
  next => exact .inl rfl

/-- Settles O45: each service keeps its frame, the layer is one of them, and an unlisted pair is claimed by none. -/
theorem conformingLayerFrame : Obligations.ConformingLayerFrame := by
  rintro vector msdos w draw v a rfl
  show (∀ u, (conformingLayer vector msdos w draw v).answer = .handled u → _) ∧ (_ → (conformingLayer vector msdos w draw v).answer = _) ∧
    (_ → _ → (conformingLayer vector msdos w draw v).answer = _)
  have hcases := conformingLayer_cases vector msdos w draw v
  refine ⟨fun u hu => ?_, fun hunlisted => ?_, fun hvector hmsdos => ?_⟩
  · have hkeeps : KeepsBut (InServiceBuffer vector v) v u := by
      rcases hcases with h | ⟨-, -, h⟩
      · exact serveBios_keeps (h ▸ hu)
      · exact serveDos_keeps (h ▸ hu)
    exact ⟨hkeeps.regs, hkeeps.flags, hkeeps.mem⟩
  · rcases hcases with h | ⟨-, -, h⟩
    · rw [h, serveBios_unclaimed vector w draw v hunlisted]; rfl
    · rw [h, serveDos_unclaimed vector w v hunlisted]; rfl
  · subst hvector hmsdos
    rfl

end Sys2Proof.Machine
end

section
/-! PROOFS. The listed services, run through `INT` while their backends do not fail (60_exceptions.md R351 to R362). -/

namespace Sys2Proof.Machine

/-! ## From a service to the instruction -/

/-- `INT vector` in `s` completes with the registers, flags and memory of `u`, and the host has seen `calls`. -/
def CompletesAs (s : State) (vector : Byte) (u : View) (calls : List BackendCall) : Prop :=
  ∃ t, exec (.intIb vector) s = .next t ∧ t.regs = u.regs ∧ t.flags = u.flags ∧ t.mem = u.mem ∧
    t.host_log = (calls.map HostEvent.backend).reverse ++ s.host_log

/-- The answer that stands first is the next one. -/
theorem nextChoice_of_choices {s : State} {c : Choice} {rest : List Choice} (h : s.choices = c :: rest) : s.nextChoice = c := by
  unfold State.nextChoice
  rw [h]

/-- A backend that does not fail. -/
theorem backed_ok {w : World} (h : w.ioError = none) (calls : List BackendCall) (v : View) :
    Served.backed w calls v = { answer := .handled v, calls := calls } := by
  unfold Served.backed
  rw [h]

/-- A service of the BIOS answers the instruction. -/
theorem completesAs_of_serveBios {s : State} {w : World} {rest : List Choice} (hc : s.choices = .conforming w :: rest) {vector : Byte}
    {u : View} {calls : List BackendCall}
    (h : serveBios vector w s.draws s.enterInterrupt.view = { answer := .handled u, calls := calls }) : CompletesAs s vector u calls := by
  refine interrupt_served s vector u calls ?_
  rw [nextChoice_of_choices hc]
  show conformingLayer vector s.MSDOS_ENABLED w s.draws s.enterInterrupt.view = _
  rw [conformingLayer, h]

/-- What `INT 21h` brings when MS-DOS is enabled. -/
theorem intLayer_dos {s : State} {w : World} {rest : List Choice} (hc : s.choices = .conforming w :: rest)
    (hdos : s.MSDOS_ENABLED = true) :
    intLayer 0x21 s.MSDOS_ENABLED s.nextChoice s.draws s.enterInterrupt.view = serveDos21 w s.enterInterrupt.view := by
  rw [nextChoice_of_choices hc, hdos]
  rfl

/-- A service of MS-DOS answers the instruction. -/
theorem completesAs_of_serveDos21 {s : State} {w : World} {rest : List Choice} (hc : s.choices = .conforming w :: rest)
    (hdos : s.MSDOS_ENABLED = true) {u : View} {calls : List BackendCall}
    (h : serveDos21 w s.enterInterrupt.view = { answer := .handled u, calls := calls }) : CompletesAs s 0x21 u calls :=
  interrupt_served s 0x21 u calls ((intLayer_dos hc hdos).trans h)

/-- The pushes of a dispatch keep memory canonical. -/
theorem wf_enterInterrupt (s : State) (h : s.mem.wf = true) : s.enterInterrupt.mem.wf = true := by
  rw [enterInterrupt_eq]
  exact Memory.wf_write16 _ _ _ _ (Memory.wf_write16 _ _ _ _ (Memory.wf_write16 _ _ _ _ h))

/-! ## What the services answer -/

/-- Bytes stored from `seg:off` upward in the view's memory. -/
def View.store (v : View) (seg off : Word) (bs : List Byte) : View := { v with mem := v.mem.writeBytes seg off bs }

section
variable {w : World} (hok : w.ioError = none) {v : View}
include hok

/-- A video service other than the one that reads the cursor makes one call, and may write in the text buffer. -/
theorem serveVideo_call (call : BackendCall)
    (h : (v.regs.get8 .ah = 0x00 ∧ call = .setMode (v.regs.get8 .al)) ∨
      (v.regs.get8 .ah = 0x02 ∧ call = .moveCursor (v.regs.get8 .dh) (v.regs.get8 .dl)) ∨
      (v.regs.get8 .ah = 0x06 ∧ call = .scroll (v.regs.get8 .al) (v.regs.get8 .bh)) ∨
      ((v.regs.get8 .ah = 0x09 ∨ v.regs.get8 .ah = 0x0A) ∧
        call = .writeChar (v.regs.get8 .ah) (v.regs.get8 .al) (v.regs.get8 .bh) (v.regs.get8 .bl) v.regs.CX) ∨
      (v.regs.get8 .ah = 0x0E ∧ call = .ttyWrite (v.regs.get8 .al))) :
    serveVideo w v = { answer := .handled (v.textBuffer w), calls := [call] } := by
  unfold serveVideo
  dsimp only
  rcases h with ⟨hah, rfl⟩ | ⟨hah, rfl⟩ | ⟨hah, rfl⟩ | ⟨hah | hah, rfl⟩ | ⟨hah, rfl⟩
  all_goals
    rw [hah]
    exact backed_ok hok _ _

/-- The cursor is read (60_exceptions.md R353). -/
theorem serveVideo_readCursor (hah : v.regs.get8 .ah = 0x03) : serveVideo w v =
    { answer := .handled ((((v.textBuffer w).set8 .dh w.row).set8 .dl w.column).set16 .cx 0), calls := [.readCursor] } := by
  unfold serveVideo
  dsimp only
  rw [hah]
  exact backed_ok hok _ _

/-- A disk read that succeeds (60_exceptions.md R357). -/
theorem serveDisk_success (draw : Nat) (hah : v.regs.get8 .ah = 0x02) (hs : w.success = true) : serveDisk w draw v =
    { answer := .handled (((v.store v.regs.ES v.regs.BX (dataBytes w draw ((v.regs.get8 .al).toNat * 512))).set8 .ah 0).setCF false)
      calls := [.readSectors (v.regs.get8 .al) (v.regs.get8 .ch) (v.regs.get8 .cl) (v.regs.get8 .dh) (v.regs.get8 .dl)] } := by
  unfold serveDisk
  dsimp only
  rw [hah, hs]
  exact backed_ok hok _ _

/-- A disk read that fails (60_exceptions.md R357). -/
theorem serveDisk_failure (draw : Nat) (hah : v.regs.get8 .ah = 0x02) (hs : w.success = false) : serveDisk w draw v =
    { answer := .handled (((v.store v.regs.ES v.regs.BX (w.data.take ((v.regs.get8 .al).toNat * 512))).set8 .ah
        (nonZero (loByte w.errorCode))).setCF true)
      calls := [.readSectors (v.regs.get8 .al) (v.regs.get8 .ch) (v.regs.get8 .cl) (v.regs.get8 .dh) (v.regs.get8 .dl)] } := by
  unfold serveDisk
  dsimp only
  rw [hah, hs]
  exact backed_ok hok _ _

/-- A key comes (60_exceptions.md R358). -/
theorem serveKeyboard_read (hah : v.regs.get8 .ah = 0x00) (hkey : w.keyComes = true) : serveKeyboard w v =
    { answer := .handled ((v.set8 .ah w.scancode).set8 .al w.ascii), calls := [.readKey] } := by
  unfold serveKeyboard
  rw [hah, hkey, Bool.not_true, Bool.and_false]
  exact backed_ok hok _ _

/-- The keyboard is peeked at (60_exceptions.md R358). -/
theorem serveKeyboard_peek (hah : v.regs.get8 .ah = 0x01) : serveKeyboard w v =
    { answer := .handled (if w.keyWaiting then ((v.set8 .ah w.scancode).set8 .al w.ascii).setZF false else v.setZF true)
      calls := [.peekKey] } := by
  unfold serveKeyboard
  rw [hah]
  exact backed_ok hok _ _

/-- A character is written (60_exceptions.md R360). -/
theorem serveDos21_character (hah : v.regs.get8 .ah = 0x02) :
    serveDos21 w v = { answer := .handled v, calls := [.ttyWrite (v.regs.get8 .dl)] } := by
  unfold serveDos21
  dsimp only
  rw [hah]
  exact backed_ok hok _ _

/-- A dollar string is written (60_exceptions.md R360). -/
theorem serveDos21_string (hah : v.regs.get8 .ah = 0x09) {str : List Byte}
    (hstr : stringBytes v.mem v.regs.DS 0x24 segmentBytes v.regs.DX = some str) :
    serveDos21 w v = { answer := .handled v, calls := str.map .ttyWrite } := by
  unfold serveDos21
  dsimp only
  rw [hah, hstr]
  exact backed_ok hok _ _

/-- A file is opened, or not (60_exceptions.md R361). -/
theorem serveDos21_open (hah : v.regs.get8 .ah = 0x3D) {path : List Byte}
    (hpath : stringBytes v.mem v.regs.DS 0 segmentBytes v.regs.DX = some path) :
    serveDos21 w v =
      { answer := .handled (if w.success then (v.set16 .ax w.handle).setCF false else (v.set16 .ax w.errorCode).setCF true)
        calls := [.openFile path (v.regs.get8 .al)] } := by
  unfold serveDos21
  dsimp only
  rw [hah, hpath]
  exact backed_ok hok _ _

/-- A file is read (60_exceptions.md R361). -/
theorem serveDos21_read (hah : v.regs.get8 .ah = 0x3F) :
    serveDos21 w v =
      { answer := .handled (((v.store v.regs.DS v.regs.DX (w.data.take v.regs.CX.toNat)).set16 .ax
          (BitVec.ofNat 16 (w.data.take v.regs.CX.toNat).length)).setCF w.carry)
        calls := [.readFile v.regs.BX v.regs.CX] } := by
  unfold serveDos21
  dsimp only
  rw [hah]
  exact backed_ok hok _ _

/-- A file is positioned (60_exceptions.md R361). -/
theorem serveDos21_seek (hah : v.regs.get8 .ah = 0x42) :
    serveDos21 w v =
      { answer := .handled ((v.set16 .dx (w.position.extractLsb' 16 16)).set16 .ax (w.position.extractLsb' 0 16))
        calls := [.seekFile v.regs.BX (v.regs.get8 .al) (v.regs.CX ++ v.regs.DX)] } := by
  unfold serveDos21
  dsimp only
  rw [hah]
  exact backed_ok hok _ _

end

/-- The ticks are given (60_exceptions.md R359). -/
theorem serveTime_ticks (w : World) {v : View} (hah : v.regs.get8 .ah = 0x00) :
    serveTime w v = .done ((v.set16 .cx (w.ticks.extractLsb' 16 16)).set16 .dx (w.ticks.extractLsb' 0 16)) := by
  unfold serveTime
  rw [hah]
  rfl

/-- The default drive is given (60_exceptions.md R361). -/
theorem serveDos21_drive (w : World) {v : View} (hah : v.regs.get8 .ah = 0x19) : serveDos21 w v = .done (v.set8 .al 0) := by
  unfold serveDos21
  dsimp only
  rw [hah]
  rfl

/-- The version is given (60_exceptions.md R361). -/
theorem serveDos21_version (w : World) {v : View} (hah : v.regs.get8 .ah = 0x30) :
    serveDos21 w v = .done ((v.set8 .al 5).set8 .ah 0) := by
  unfold serveDos21
  dsimp only
  rw [hah]
  rfl

/-- The program ends (60_exceptions.md R362). -/
theorem serveDos21_terminate (w : World) {v : View} (hah : v.regs.get8 .ah = 0x4C) :
    serveDos21 w v = { answer := .terminate, calls := [] } := by
  unfold serveDos21
  dsimp only
  rw [hah]
  rfl

/-! ## What the outputs are -/

/-- The error code of a failed disk read is not zero. -/
theorem nonZero_ne_zero (b : Byte) : nonZero b ≠ 0 := by
  unfold nonZero
  split
  · decide
  · assumption

/-- AX by its two bytes. -/
theorem reg8_of_AX {t : State} {lo hi : Byte} (h : t.regs.AX = joinBytes lo hi) : t.reg8 .ah = hi ∧ t.reg8 .al = lo :=
  ⟨(congrArg hiByte h).trans (hiByte_joinBytes lo hi), (congrArg loByte h).trans (loByte_joinBytes lo hi)⟩

/-- DX by its two bytes. -/
theorem reg8_of_DX {t : State} {lo hi : Byte} (h : t.regs.DX = joinBytes lo hi) : t.reg8 .dh = hi ∧ t.reg8 .dl = lo :=
  ⟨(congrArg hiByte h).trans (hiByte_joinBytes lo hi), (congrArg loByte h).trans (loByte_joinBytes lo hi)⟩

/-- A byte that the world lists stands in the data of a disk read. -/
theorem getD_dataBytes (w : World) (draw : Nat) {n k : Nat} (hn : k < n) (hk : k < w.data.length) :
    (dataBytes w draw n).getD k 0 = w.data.getD k 0 := by
  simp [dataBytes, List.getD_eq_getElem?_getD, hn, hk]

/-- A byte before the cut stands in the cut list. -/
theorem getD_take {α : Type} (l : List α) (d : α) {n k : Nat} (hn : k < n) : (l.take n).getD k d = l.getD k d := by
  simp [List.getD_eq_getElem?_getD, hn]

/-- The two words of a double word give it back. -/
theorem toNat_words (x : BitVec 32) : (x.extractLsb' 16 16).toNat * 2 ^ 16 + (x.extractLsb' 0 16).toNat = x.toNat := by
  rw [toNat_upperWord, toNat_lowerWord, Nat.div_add_mod']

/-! ## The services through `INT` -/

/-- Settles O46: each service answers as its lemma says, and `INT` commits the answer. -/
theorem documentedServices : Obligations.DocumentedServices := by
  rintro s e w rest hc hok rfl
  refine ⟨fun call h => ?video, fun hah => ?cursor, fun hah hs => ?diskRead, fun hah hs => ?diskFails, fun hah hkey => ?key,
    fun hah => ?peek, fun hah => ?ticks, fun hdos => ⟨fun hah => ?character, fun str hah hlen hstop hbytes hend => ?string,
    fun hah => ?drive, fun hah => ?version, fun path hah hlen hstop hbytes hend => ?openFile, fun hah => ?readFile, fun hah => ?seekFile,
    fun hah => ?terminate⟩⟩
  case video =>
    obtain ⟨t, ht, hregs, hflags, -, hlog⟩ := completesAs_of_serveBios (vector := 0x10) hc (serveVideo_call hok call h)
    exact ⟨t, ht, hregs, hflags, hlog⟩
  case cursor =>
    obtain ⟨t, ht, hregs, hflags, -, hlog⟩ := completesAs_of_serveBios (vector := 0x10) hc (serveVideo_readCursor hok hah)
    have hDX : t.regs.DX = joinBytes w.column w.row := by
      rw [hregs]
      exact congrArg (joinBytes w.column) (hiByte_joinBytes (loByte s.regs.DX) w.row)
    exact ⟨t, ht, (reg8_of_DX hDX).1, (reg8_of_DX hDX).2, by rw [hregs]; rfl, hflags, hlog⟩
  case diskRead =>
    obtain ⟨t, ht, hregs, hflags, hmem, hlog⟩ := completesAs_of_serveBios (vector := 0x13) hc (serveDisk_success hok s.draws hah hs)
    have hAX : t.regs.AX = joinBytes (s.reg8 .al) 0 := by rw [hregs]; rfl
    refine ⟨t, ht, (reg8_of_AX hAX).1, (reg8_of_AX hAX).2, by rw [hregs]; rfl, hflags, hlog, fun hwf k hk hlast hdata => ?_⟩
    have hlen : (dataBytes w s.draws ((s.reg8 .al).toNat * 512)).length = (s.reg8 .al).toNat * 512 := by simp [dataBytes]
    rw [hmem, ← getD_dataBytes w s.draws hk hdata]
    exact Memory.read8_writeBytes _ _ _ _ (wf_enterInterrupt s hwf) k (hk.trans_eq hlen.symm) (hlen.trans_le hlast)
  case diskFails =>
    obtain ⟨t, ht, hregs, hflags, -, hlog⟩ := completesAs_of_serveBios (vector := 0x13) hc (serveDisk_failure hok s.draws hah hs)
    have hAX : t.regs.AX = joinBytes (s.reg8 .al) (nonZero (loByte w.errorCode)) := by rw [hregs]; rfl
    exact ⟨t, ht, (reg8_of_AX hAX).1 ▸ nonZero_ne_zero _, (reg8_of_AX hAX).2, by rw [hregs]; rfl, hflags, hlog⟩
  case key =>
    obtain ⟨t, ht, hregs, hflags, hmem, hlog⟩ := completesAs_of_serveBios (vector := 0x16) hc (serveKeyboard_read hok hah hkey)
    have hAX : t.regs.AX = joinBytes w.ascii w.scancode := by
      rw [hregs]
      exact congrArg (joinBytes w.ascii) (hiByte_joinBytes (loByte s.regs.AX) w.scancode)
    exact ⟨t, ht, (reg8_of_AX hAX).1, (reg8_of_AX hAX).2, by rw [hregs]; rfl, hflags, hmem, hlog⟩
  case peek =>
    obtain ⟨t, ht, hregs, hflags, hmem, hlog⟩ := completesAs_of_serveBios (vector := 0x16) hc (serveKeyboard_peek hok hah)
    cases hkey : w.keyWaiting with
    | false =>
      simp only [hkey] at hregs hflags hmem
      exact ⟨t, ht, hflags, by rw [hregs]; rfl, hmem, hlog, fun h => (nomatch h), fun _ => hregs⟩
    | true =>
      simp only [hkey] at hregs hflags hmem
      have hAX : t.regs.AX = joinBytes w.ascii w.scancode := by
        rw [hregs]
        exact congrArg (joinBytes w.ascii) (hiByte_joinBytes (loByte s.regs.AX) w.scancode)
      exact ⟨t, ht, hflags, by rw [hregs]; rfl, hmem, hlog, fun _ => reg8_of_AX hAX, fun h => (nomatch h)⟩
  case ticks =>
    obtain ⟨t, ht, hregs, hflags, hmem, hlog⟩ := completesAs_of_serveBios (vector := 0x1A) hc (serveTime_ticks w hah)
    refine ⟨t, ht, ?_, ?_, hflags, hmem, hlog⟩
    · rw [hregs]; exact toNat_words w.ticks
    · rw [hregs]; rfl
  case character =>
    obtain ⟨t, ht, hregs, hflags, hmem, hlog⟩ := completesAs_of_serveDos21 hc hdos (serveDos21_character hok hah)
    exact ⟨t, ht, hregs, hflags, hmem, hlog⟩
  case string =>
    have hstr := stringBytes_eq s.enterInterrupt.mem s.regs.DS 0x24 segmentBytes s.regs.DX str hlen hstop hbytes hend
    obtain ⟨t, ht, hregs, hflags, hmem, hlog⟩ := completesAs_of_serveDos21 hc hdos (serveDos21_string (v := s.enterInterrupt.view) hok hah hstr)
    rw [List.map_map] at hlog
    exact ⟨t, ht, hregs, hflags, hmem, hlog⟩
  case drive =>
    obtain ⟨t, ht, hregs, hflags, hmem, hlog⟩ := completesAs_of_serveDos21 hc hdos (serveDos21_drive w hah)
    have hAX : joinBytes 0 (hiByte s.regs.AX) = 0x1900 := by rw [show hiByte s.regs.AX = 0x19 from hah]; rfl
    exact ⟨t, ht, hAX ▸ hregs, hflags, hmem, hlog⟩
  case version =>
    obtain ⟨t, ht, hregs, hflags, hmem, hlog⟩ := completesAs_of_serveDos21 hc hdos (serveDos21_version w hah)
    have hAX : joinBytes (loByte (joinBytes 5 (hiByte s.regs.AX))) 0 = 0x0005 := by rw [loByte_joinBytes]; rfl
    exact ⟨t, ht, hAX ▸ hregs, hflags, hmem, hlog⟩
  case openFile =>
    have hpath := stringBytes_eq s.enterInterrupt.mem s.regs.DS 0 segmentBytes s.regs.DX path hlen hstop hbytes hend
    obtain ⟨t, ht, hregs, hflags, hmem, hlog⟩ := completesAs_of_serveDos21 hc hdos (serveDos21_open (v := s.enterInterrupt.view) hok hah hpath)
    cases hs : w.success <;> simp only [hs] at hregs hflags hmem <;> exact ⟨t, ht, hregs, hflags, hmem, hlog⟩
  case readFile =>
    obtain ⟨t, ht, hregs, hflags, hmem, hlog⟩ := completesAs_of_serveDos21 hc hdos (serveDos21_read hok hah)
    have hlen : (w.data.take s.regs.CX.toNat).length = min w.data.length s.regs.CX.toNat := by rw [List.length_take, Nat.min_comm]
    refine ⟨t, ht, hlen ▸ hregs, hflags, hlog, fun hwf k hdata hk => ?_⟩
    have hCX := s.regs.CX.isLt
    have hfits : min w.data.length s.regs.CX.toNat ≤ 65536 + k := by omega
    rw [hmem, ← getD_take w.data 0 hk]
    exact Memory.read8_writeBytes _ _ _ _ (wf_enterInterrupt s hwf) k ((lt_min hdata hk).trans_eq hlen.symm) (hlen.trans_le hfits)
  case seekFile =>
    obtain ⟨t, ht, hregs, hflags, hmem, hlog⟩ := completesAs_of_serveDos21 hc hdos (serveDos21_seek hok hah)
    refine ⟨t, ht, ?_, ?_, hflags, hmem, hlog⟩
    · rw [hregs]; exact toNat_words w.position
    · rw [hregs]; rfl
  case terminate =>
    have hanswer : s.answerTo 0x21 = .terminate := by
      rw [State.answerTo, intLayer_dos hc hdos, serveDos21_terminate w (v := s.enterInterrupt.view) hah]
    obtain ⟨-, -, -, -, -, -, -, -, -, -, -, hregs, hflags, hmem⟩ := afterCall_keeps s 0x21
    exact ⟨_, interrupt_terminate s 0x21 hanswer, rfl, rfl, hregs, hflags, hmem⟩

end Sys2Proof.Machine
end
